-- ==== Sys2Proof/Word.lean ====
section
/-! DEFINITION. The word types of the block: every quantity is an unsigned bit vector (00_scope.md R10). -/

namespace Sys2Proof

/-- A byte: `u8` of R10, a byte of a buffer or of the wire. -/
abbrev Byte := BitVec 8

/-- A 16-bit word: `u16` of R10, the CRC accumulator and the timeouts. -/
abbrev Half := BitVec 16

/-- A 32-bit word: `u32` of R10, every host access and every command word. -/
abbrev Word := BitVec 32

/-- An 11-bit length: `CHUNK_LEN`, `TXF_LEN`, `RXF_LEN` (R24, R30, R32). -/
abbrev BufLen := BitVec 11

/-- A byte offset in the 8192-byte host window (R41). -/
abbrev Offset := BitVec 13

end Sys2Proof
end

