-- ==== Sys2Proof/Syntax.lean ====
section
/-! DEFINITION. The commands of the opcode map (30_encoding.md R60), one constructor per row of spec/opcode_table.json.
An operand has exactly the values its field admits, so every term is an instruction of the block; the check of R61
is on command words (Sys2Proof/WellFormed.lean). -/

namespace Sys2Proof

/-- The frame class of R17: it picks the ACK timeout (R93) and the silent-ACK policy (R96). -/
inductive FrameClass where
  | head | data | tail | raw
  deriving DecidableEq, Repr, Inhabited

/-- The fourteen commands (R60). -/
inductive Instr where
  /-- `NOP` (R129). -/
  | nop
  /-- `CRC.INIT` (R79). -/
  | crcInit
  /-- `CRC.BYTE b` (R80). -/
  | crcByte (b : Byte)
  /-- `CRC.FINISH` (R81). -/
  | crcFinish
  /-- `CRC.BUF` (R82). -/
  | crcBuf
  /-- `SEND.HEAD` (R85). -/
  | sendHead
  /-- `SEND.DATA n` (R86). -/
  | sendData (n : Byte)
  /-- `SEND.TAIL n` (R87). -/
  | sendTail (n : Byte)
  /-- `SEND.FRAME c` (R88). -/
  | sendFrame (c : FrameClass)
  /-- `XFER.START` (R103). -/
  | xferStart
  /-- `XFER.NEXT` (R105). -/
  | xferNext
  /-- `DECODE` (R115). -/
  | decode
  /-- `CLEAR` (R130). -/
  | clear
  /-- `SRESET` (R131). -/
  | sreset
  deriving DecidableEq, Repr

end Sys2Proof
end

