-- ==== Sys2Proof/WellFormed.lean ====
section
/-! DEFINITION. Which command words are legal: the predicate of 30_encoding.md R61, on the word alone. The decoder
(Sys2Proof/Decode.lean) is written separately from the opcode map of R60; that the two agree is a statement. -/

namespace Sys2Proof

/-- `w[7:0]`, the opcode field (R58). -/
def wordOp (w : Word) : Byte := w.extractLsb' 0 8

/-- `w[15:8]`, the operand field (R58). -/
def wordArg (w : Word) : Byte := w.extractLsb' 8 8

/-- `w[31:16]`, the field that must be zero (R58). -/
def wordRsv (w : Word) : Half := w.extractLsb' 16 16

/-- The opcodes whose `ARG` may be any byte (R61). -/
def anyArgOps : List Byte := [0x02, 0x11, 0x12]

/-- The opcodes whose `ARG` must be zero (R61). -/
def zeroArgOps : List Byte := [0x00, 0x01, 0x03, 0x04, 0x10, 0x20, 0x21, 0x30, 0x3E, 0x3F]

/-- `legal(w)` of R61. -/
def legal (w : Word) : Bool :=
  wordRsv w == 0 &&
    (anyArgOps.contains (wordOp w) ||
      (wordOp w == 0x13 && (wordArg w).extractLsb' 2 6 == 0) ||
      (zeroArgOps.contains (wordOp w) && wordArg w == 0))

end Sys2Proof
end

