-- ==== Sys2Proof/Decode.lean ====
section
/-! DEFINITION. The decoder and the encoder of command words (30_encoding.md R58 to R61). `decode` is total: a word
that is no command of R60 gives `none`, and R69 says what the block does with it. -/

namespace Sys2Proof

/-- The two-bit code of a frame class (R17): 0 HEAD, 1 DATA, 2 TAIL, 3 RAW. -/
def FrameClass.code : FrameClass → BitVec 2
  | .head => 0
  | .data => 1
  | .tail => 2
  | .raw => 3

/-- The frame class of a two-bit code: the operand `c` of `SEND.FRAME` (R59). -/
def FrameClass.ofCode (c : BitVec 2) : FrameClass :=
  if c = 0 then .head else if c = 1 then .data else if c = 2 then .tail else .raw

/-- `i` where the condition of its `ARG` field holds (R59). -/
def guardArg (ok : Bool) (i : Instr) : Option Instr := if ok then some i else none

/-- The opcode map of R60 on the fields `OP` and `ARG`. -/
def decodeFields (op arg : Byte) : Option Instr :=
  if op = 0x00 then guardArg (arg == 0) .nop
  else if op = 0x01 then guardArg (arg == 0) .crcInit
  else if op = 0x02 then some (.crcByte arg)
  else if op = 0x03 then guardArg (arg == 0) .crcFinish
  else if op = 0x04 then guardArg (arg == 0) .crcBuf
  else if op = 0x10 then guardArg (arg == 0) .sendHead
  else if op = 0x11 then some (.sendData arg)
  else if op = 0x12 then some (.sendTail arg)
  else if op = 0x13 then guardArg (arg.extractLsb' 2 6 == 0) (.sendFrame (.ofCode (arg.extractLsb' 0 2)))
  else if op = 0x20 then guardArg (arg == 0) .xferStart
  else if op = 0x21 then guardArg (arg == 0) .xferNext
  else if op = 0x30 then guardArg (arg == 0) .decode
  else if op = 0x3E then guardArg (arg == 0) .clear
  else if op = 0x3F then guardArg (arg == 0) .sreset
  else none

/-- The command of a word written to `CMD`; `none` for a word that is not legal (R60, R61). -/
def decode (w : Word) : Option Instr :=
  if wordRsv w = 0 then decodeFields (wordOp w) (wordArg w) else none

/-- The opcode of a command (R60). -/
def opcode : Instr → Byte
  | .nop => 0x00
  | .crcInit => 0x01
  | .crcByte _ => 0x02
  | .crcFinish => 0x03
  | .crcBuf => 0x04
  | .sendHead => 0x10
  | .sendData _ => 0x11
  | .sendTail _ => 0x12
  | .sendFrame _ => 0x13
  | .xferStart => 0x20
  | .xferNext => 0x21
  | .decode => 0x30
  | .clear => 0x3E
  | .sreset => 0x3F

/-- The `ARG` field of a command (R59): zero where the command takes no operand. -/
def operand : Instr → Byte
  | .crcByte b => b
  | .sendData n => n
  | .sendTail n => n
  | .sendFrame c => c.code.setWidth 8
  | .nop | .crcInit | .crcFinish | .crcBuf | .sendHead | .xferStart | .xferNext | .decode | .clear | .sreset => 0

/-- The command word of R58: `OP` in 7:0, `ARG` in 15:8, 31:16 zero. -/
def encode (i : Instr) : Word := (0 : Half) ++ operand i ++ opcode i

/-- The command word whose low `nbits` bits are those of `w`, the bits above them zero. -/
def tableWord (nbits w : Nat) : Word := BitVec.ofNat 32 (w % 2 ^ nbits)

/-- The instruction the decoder reads from the bits `w` of a row of spec/opcode_table.json. -/
def decodeTableWord (nbits w : Nat) : Option Instr := decode (tableWord nbits w)

end Sys2Proof
end

