-- ==== Sys2Proof/Config.lean ====
section
/-! DEFINITION. What is fixed for one machine: the parameters the source settles (00_scope.md R8), the reset
parameters it leaves open (R9, 70_reset_and_hazards.md R151), the free values the link chooses (42_ack_handshake.md
R94), and the moment a timeout is read (log 15). The free values have no body: nothing can be proved of what they are. -/

namespace Sys2Proof

/-- The outcome of `Link.Read1` (R94). -/
inductive ReadOutcome where
  /-- One byte was read. -/
  | byte (b : Byte)
  /-- No byte arrived before the timeout. -/
  | timeout
  /-- The port is closed or absent, or the read failed. -/
  | err
  deriving DecidableEq, Repr, Inhabited

/-- The draw an engine step takes (45_control.md R135). -/
inductive Draw where
  | flushOk | flushErr | writeOk | writeErr
  | readByte (b : Byte)
  | readTimeout | readErr
  /-- `None`: the SETTLE step makes no link request. -/
  | noDraw
  deriving DecidableEq, Repr

/-- The reset parameters of R151. -/
structure Params where
  /-- `settle_ms`, the reset value of `SETTLE`. -/
  settleMs : Half
  /-- `tail_offset_reset`, the reset value of `CTRL.TAILOFF`. -/
  tailOffsetReset : Bool
  /-- `sdok_reset`, the reset value of `CTRL.SDOK`. -/
  sdokReset : Bool
  deriving DecidableEq, Repr

/-- `MAX_CHUNK` (R8). -/
def Config.maxChunk : Nat := 1024

/-- `MAX_FRAME` (R9): 3 + 1024 + 2. -/
def Config.maxFrame : Nat := 1029

/-- `ACK` (R8). -/
def Config.ack : Byte := 0xAA

/-- `HEAD_DELIM` (R8). -/
def Config.headDelim : List Byte := [0xFE, 0x00, 0xFF, 0x01]

/-- `DATA_DELIM` (R8). -/
def Config.dataDelim : Byte := 0xDA

/-- `TAIL_DELIM` (R8). -/
def Config.tailDelim : Byte := 0xED

/-- The CRC polynomial (R8). -/
def Config.crcPoly : Half := 0x1021

/-- `settle_ms` of the machine that `State.reset` stands for. DESIGN CHOICE (log 5), unsafe: the source gives no
value (R9, D10); no statement rests on this one, since every statement about reset is for all reset parameters. -/
def Config.settleMs : Half := 0

/-- The reset parameters of the machine that `State.reset` stands for: the defaults of R151, and the
model's `settle_ms` (log 5, log 6). -/
def Config.defaultParams : Params :=
  { settleMs := Config.settleMs, tailOffsetReset := false, sdokReset := true }

/-- The free outcome of `Link.Flush` in an unscheduled FLUSH step (R91, log 2): `true` is `ok`. -/
opaque Config.freeFlush : Nat → Bool

/-- The free outcome of `Link.Write` in an unscheduled TX step (R92, log 2): `true` is `ok`. -/
opaque Config.freeWrite : Nat → Bool

/-- The free outcome of `Link.Read1` in an unscheduled WAIT_ACK step (R94, log 2). -/
opaque Config.freeRead : Nat → ReadOutcome

/-- When the block reads the timeout register of a handshake: `true` when the handshake starts (10_state.md R29),
`false` when its WAIT_ACK step starts (42_ack_handshake.md R93). The spec states both, so which one is open (log 15). -/
opaque Config.timeoutReadAtStart : Bool

end Sys2Proof
end

