-- ==== Sys2Proof/Machine/State.lean ====
section
/-! DEFINITION. The state of the block (10_state.md), as plain data: the fields of every register of R14, the
internal register `CUR_OP`, the three buffers, the output stream `PROGRESS`, and, in `env`, the model's own record of
the agents around the block. `BUSY`, `ERR`, `XACT` and `IRQ` are functions of the other fields (R133) and stand in
Machine/Flags.lean. -/

namespace Sys2Proof.Machine

/-- The engine's control state, `STATUS.STATE` (R15). -/
inductive EngineState where
  | idle | flush | tx | waitAck | settle | waitChunk | error
  deriving DecidableEq, Repr

/-- `STATUS.XPHASE` (R16): which frame of a transfer is in flight or due next. -/
inductive XferPhase where
  | none | head | data | tail
  deriving DecidableEq, Repr

/-- `STATUS.ERRCODE` (60_exceptions.md R137). -/
inductive ErrCode where
  | none | protocolViolation | transportIo | ackTimeout | chunkLen | illegalCmd
  deriving DecidableEq, Repr

/-- `RX_INFO.RX_TYPE` (R33). -/
inductive RxType where
  | none | head | data | tail
  deriving DecidableEq, Repr

/-- `RX_INFO.RX_CODE` (R33). -/
inductive RxCode where
  | ok | noDelimiter | badLength | badCrc | badComplement | seqErr | notDecoded
  deriving DecidableEq, Repr

/-- The fields of `CTRL` (R27). -/
structure Ctrl where
  tailOff : Bool
  sdOk : Bool
  ieDone : Bool
  ieErr : Bool
  deriving DecidableEq, Repr

/-- The fields of `ERRINFO` (R35). -/
structure ErrInfo where
  exp : Byte
  rx : Byte
  cls : BitVec 2
  op : Byte
  deriving DecidableEq, Repr

/-- The timeout and delay registers (R29). -/
structure Timeouts where
  head : Half
  data : Half
  tail : Half
  raw : Half
  settle : Half
  deriving DecidableEq, Repr

/-- The decoder's results (R33): `RX_INFO`, `RX_CRC`, `RX_LEN`, `RX_ADDR`. -/
structure RxRegs where
  kind : RxType
  code : RxCode
  n : Byte
  chunkLen : BufLen
  recvCrc : Half
  calcCrc : Half
  len : Word
  addr : Word
  deriving DecidableEq, Repr

/-- The decoder's sequence tracker (R34): `RX_TRACK` and `RX_CNT`. -/
structure Tracker where
  exp : Byte
  inXfer : Bool
  cnt : Word
  deriving DecidableEq, Repr

/-- One event of the `PROGRESS` stream (R38). -/
structure ProgressEvent where
  sent : Word
  total : Word
  percent : Word
  deriving DecidableEq, Repr

/-- The buffers `CHUNK`, `RXF` and `TXF` as bytes at their window offsets (20_memory.md R42, R43; log 11): addresses
strictly rising, no listed byte equal to what an unlisted address reads as (`Memory.wf`). -/
structure Memory where
  cells : List Host.Cell
  deriving DecidableEq, Repr

/-- One event of the step relation (45_control.md R135), and the reset input (R150, log 4). -/
inductive Event where
  | hostRead (off : Offset)
  | hostWrite (off : Offset) (value : Word)
  | engineStep (d : Draw)
  | resetInput
  deriving DecidableEq, Repr

/-- One request of the block to the link, with its outcome (42_ack_handshake.md R91, R92, R94), or the start of the
settle delay (43_transfer_sequencer.md R108). Log 8. -/
inductive LinkEvent where
  | flush (ok : Bool)
  | write (frame : List Byte) (ok : Bool)
  | read (timeout : Half) (r : ReadOutcome)
  | settle (delay : Half)
  deriving DecidableEq, Repr

/-- The MODEL's own fields: the agents around the block as data (log 1, log 2, log 8, log 9). -/
structure Env where
  /-- The events to come, the next one first (log 1). -/
  inputs : List Event
  /-- The requests made of the link so far, the oldest first (log 8). -/
  link : List LinkEvent
  /-- The values returned to host reads so far, the oldest first (log 9). -/
  reads : List Word
  /-- How many free link draws have been taken (log 2). -/
  draws : Nat
  deriving DecidableEq, Repr

/-- The state of the block (R13) and, in `params`, `startTimeout` and `env`, the model's own fields. -/
structure State where
  /-- `CTRL` (R27). -/
  ctrl : Ctrl
  /-- `STATUS.STATE` (R15). -/
  state : EngineState
  /-- `STATUS.XPHASE` (R16). -/
  xphase : XferPhase
  /-- `STATUS.CLASS` (R17). -/
  cls : FrameClass
  /-- `STATUS.DONE` (R28). -/
  done : Bool
  /-- `STATUS.OVR` (R28). -/
  ovr : Bool
  /-- `STATUS.RXV` (R28). -/
  rxv : Bool
  /-- `STATUS.LAST_RX` (R28). -/
  lastRx : Byte
  /-- `STATUS.ERRCODE` (R137). -/
  errCode : ErrCode
  /-- `ERRINFO` (R35). -/
  errInfo : ErrInfo
  /-- `CUR_OP` (R18). -/
  curOp : Byte
  /-- `ACC` (R19). -/
  acc : Half
  /-- `LEN` (R23). -/
  len : Word
  /-- `ADDR` (R23). -/
  addr : Word
  /-- `CHUNK_LEN` (R24). -/
  chunkLen : BufLen
  /-- `SEQ` (R20). -/
  seq : Byte
  /-- `NSENT` (R21). -/
  nsent : Word
  /-- `REMAIN` (R22). -/
  remain : Word
  /-- `PROG_SENT` (R25). -/
  progSent : Word
  /-- `PROG_TOTAL` (R25). -/
  progTotal : Word
  /-- `SILENT_RUN` (R26). -/
  silentRun : Word
  /-- `SILENT_TOTAL` (R26). -/
  silentTotal : Word
  /-- `TO_HEAD`, `TO_DATA`, `TO_TAIL`, `TO_RAW`, `SETTLE` (R29). -/
  timeouts : Timeouts
  /-- The MODEL's own field: the timeout register of the frame's class as it stood when the handshake in progress
  started, its FLUSH step (R29, R90; log 15). -/
  startTimeout : Half
  /-- `TXF_LEN` (R30). -/
  txfLen : BufLen
  /-- `RXF_LEN` (R32). -/
  rxfLen : BufLen
  /-- `RX_INFO`, `RX_CRC`, `RX_LEN`, `RX_ADDR` (R33). -/
  rx : RxRegs
  /-- `RX_TRACK`, `RX_CNT` (R34). -/
  tracker : Tracker
  /-- `CHUNK`, `RXF`, `TXF` (R30 to R32). -/
  mem : Memory
  /-- `PROGRESS` (R38), the oldest event first. -/
  progress : List ProgressEvent
  /-- The reset parameters (R151, log 6); no step changes them. -/
  params : Params
  /-- The agents around the block (log 1). -/
  env : Env
  deriving DecidableEq, Repr

/-- Why the machine stops. -/
inductive Fault where
  /-- Raised by a scheduled engine step for which the relation of R135 is not defined: the engine is not busy, or the
  draw does not fit its state. Safe: the block has no such step, so the model says nothing of it (log 3). -/
  | undefinedEvent
  deriving DecidableEq, Repr

/-- Why an instruction has no meaning. -/
inductive Refusal where
  /-- Raised by an arm of `exec` whose instruction is not modelled yet. Safe. No arm uses it. -/
  | notModelled (mnemonic : String)
  deriving DecidableEq, Repr

/-- `RX_INFO`, `RX_CRC`, `RX_LEN`, `RX_ADDR` after reset (R33): `RX_CODE` is NOT_DECODED, all else zero. -/
def RxRegs.reset : RxRegs :=
  { kind := .none, code := .notDecoded, n := 0, chunkLen := 0, recvCrc := 0, calcCrc := 0, len := 0, addr := 0 }

/-- The environment with no event to come and nothing recorded (log 1, log 2, log 8, log 9). -/
def Env.initial : Env := { inputs := [], link := [], reads := [], draws := 0 }

/-- `Reset()` of R152 with the reset parameters `p`. -/
def State.resetWith (p : Params) : State where
  ctrl := { tailOff := p.tailOffsetReset, sdOk := p.sdokReset, ieDone := false, ieErr := false }
  state := .idle
  xphase := .none
  cls := .head
  done := false
  ovr := false
  rxv := false
  lastRx := 0x00
  errCode := .none
  errInfo := { exp := 0, rx := 0, cls := 0, op := 0 }
  curOp := 0x00
  acc := 0x0000
  len := 0
  addr := 0
  chunkLen := 0
  seq := 1
  nsent := 0
  remain := 0
  progSent := 0
  progTotal := 0
  silentRun := 0
  silentTotal := 0
  timeouts := { head := 90, data := 450, tail := 10, raw := 1000, settle := p.settleMs }
  startTimeout := 0
  txfLen := 0
  rxfLen := 0
  rx := RxRegs.reset
  tracker := { exp := 1, inXfer := false, cnt := 0 }
  mem := { cells := [] }
  progress := []
  params := p
  env := Env.initial

/-- The machine right after reset (R152), with the parameters of `Config.defaultParams`. -/
def State.reset : State := State.resetWith Config.defaultParams

end Sys2Proof.Machine
end

