-- ==== Sys2Proof/Machine/Crc16.lean ====
section
/-! DEFINITION. The CRC-16 functions of 40_crc.md (R75 to R77). -/

namespace Sys2Proof.Machine

/-- One turn of the generating procedure of R75: shift left, and reduce by the polynomial if bit 15 was set. -/
def crcShift (r : Half) : Half :=
  if r.getLsbD 15 then (r <<< 1) ^^^ Config.crcPoly else r <<< 1

/-- `T(i)` of R75: eight turns from `zext_16(i) << 8`. -/
def crcTable (i : Byte) : Half := crcShift^[8] (i.setWidth 16 <<< 8)

/-- `Step(a, b)` of R76. -/
def crcStep (a : Half) (b : Byte) : Half :=
  ((a <<< 8) ||| b.setWidth 16) ^^^ crcTable (a.extractLsb' 8 8)

/-- The two flush steps of R77: "do not omit". -/
def crcFlush (a : Half) : Half := crcStep (crcStep a 0x00) 0x00

/-- `crc16(s)` of R77. -/
def crc16 (s : List Byte) : Half := crcFlush (s.foldl crcStep 0x0000)

end Sys2Proof.Machine
end

