-- ==== Sys2Proof/Machine/Memory.lean ====
section
/-! DEFINITION. The buffers as one memory of the host window (20_memory.md R42, R43): reading a byte, reading a range,
writing a range, the canonical form, and the regions. Byte `k` of a buffer at window `W` lies in the word `W + 4 * (k
div 4)`, bits `8 * (k mod 4)` up (R43), so its byte address is `W + k`. -/

namespace Sys2Proof.Machine

/-- What a byte nothing has written reads as: every buffer byte is 0x00 after reset (R152). -/
def Memory.unlisted : Byte := 0x00

/-- The byte a list of cells gives an address. -/
def lookupCell : List Host.Cell → Nat → Byte
  | [], _ => Memory.unlisted
  | c :: cs, a => if c.1 = a then c.2 else lookupCell cs a

/-- The byte at address `a`. -/
def Memory.read (m : Memory) (a : Nat) : Byte := lookupCell m.cells a

/-- The `n` bytes from `base` up. -/
def Memory.bytes (m : Memory) (base n : Nat) : List Byte := (List.range n).map fun k => m.read (base + k)

/-- The cells that list `bs` from `base` up: the bytes that differ from what an unlisted address reads as. -/
def cellsOf : Nat → List Byte → List Host.Cell
  | _, [] => []
  | a, b :: bs => if b = Memory.unlisted then cellsOf (a + 1) bs else (a, b) :: cellsOf (a + 1) bs

/-- `m` with the bytes `bs` stored from `base` up. -/
def Memory.write (m : Memory) (base : Nat) (bs : List Byte) : Memory :=
  { cells := m.cells.filter (fun c => decide (c.1 < base)) ++ cellsOf base bs ++
      m.cells.filter (fun c => decide (base + bs.length ≤ c.1)) }

/-- The canonical form: addresses strictly rising, no listed byte equal to what an unlisted address reads as. -/
abbrev Memory.wf (m : Memory) : Prop :=
  m.cells.Pairwise (fun c d => c.1 < d.1) ∧ ∀ c ∈ m.cells, c.2 ≠ Memory.unlisted

/-- A buffer's place in the host window (R42). -/
structure Region where
  base : Nat
  size : Nat
  deriving DecidableEq, Repr

/-- The window `CHUNK` (R42): bytes 0 to 1023 at 0x400. -/
def chunkRegion : Region := { base := 0x400, size := 1024 }

/-- The window `RXF` (R42): bytes 0 to 1028 at 0x800. -/
def rxfRegion : Region := { base := 0x800, size := 1029 }

/-- The window `TXF` (R42): bytes 0 to 1028 at 0x1000. -/
def txfRegion : Region := { base := 0x1000, size := 1029 }

/-- `a` is the address of a byte of the region. -/
def Region.contains (r : Region) (a : Nat) : Bool := decide (r.base ≤ a) && decide (a < r.base + r.size)

/-- `a` is the address of a buffer byte (R42). -/
def inBuffer (a : Nat) : Bool := chunkRegion.contains a || rxfRegion.contains a || txfRegion.contains a

/-- `CHUNK[0:n]` (R31). -/
def State.chunkBytes (s : State) (n : Nat) : List Byte := s.mem.bytes chunkRegion.base n

/-- `RXF[0:n]` (R32). -/
def State.rxfBytes (s : State) (n : Nat) : List Byte := s.mem.bytes rxfRegion.base n

/-- `TXF[0:TXF_LEN]` (R30), the frame last built. -/
def State.txFrame (s : State) : List Byte := s.mem.bytes txfRegion.base s.txfLen.toNat

end Sys2Proof.Machine
end

