-- ==== Sys2Proof/Machine/Operands.lean ====
section
/-! DEFINITION. Operand and field assembly: the big-endian wire fields (20_memory.md R44, 30_encoding.md R65), the
little-endian bus packing (R43, R45), the payloads of the three frame shapes (R62 to R64), and the operand faults
(45_control.md R128). -/

namespace Sys2Proof.Machine

/-- `BE32(x)` of R10. -/
def be32 (x : Word) : List Byte :=
  [x.extractLsb' 24 8, x.extractLsb' 16 8, x.extractLsb' 8 8, x.extractLsb' 0 8]

/-- `BE16(x)` of R10. -/
def be16 (x : Half) : List Byte := [x.extractLsb' 8 8, x.extractLsb' 0 8]

/-- The four bytes of a bus word, lowest address first (R43, R45). -/
def le32 (x : Word) : List Byte :=
  [x.extractLsb' 0 8, x.extractLsb' 8 8, x.extractLsb' 16 8, x.extractLsb' 24 8]

/-- The bus word of four bytes, lowest address first (R43, R45). -/
def ofLe32 (b0 b1 b2 b3 : Byte) : Word := b3 ++ b2 ++ b1 ++ b0

/-- The payload of a head frame (R62). -/
def headPayload (len addr : Word) : List Byte := Config.headDelim ++ be32 len ++ be32 addr

/-- The payload of a data frame (R63). -/
def dataPayload (seq : Byte) (chunk : List Byte) : List Byte := [Config.dataDelim, seq, ~~~seq] ++ chunk

/-- The payload of a tail frame (R64). -/
def tailPayload (count : Byte) : List Byte := [Config.tailDelim, count, ~~~count]

/-- A frame: the payload and its CRC trailer, big-endian (R65). -/
def frameOf (payload : List Byte) : List Byte := payload ++ be16 (crc16 payload)

/-- The number of data frames of an image: `ceil(LEN / 1024)` (R25). -/
def frameCount (len : Word) : Nat := (len.toNat + (Config.maxChunk - 1)) / Config.maxChunk

/-- `need` of R105: the length the next chunk must have, `min(1024, REMAIN)`. -/
def chunkNeed (s : State) : Nat := min Config.maxChunk s.remain.toNat

/-- The operand fault of `CRC.BUF`, `SEND.DATA` and `SEND.FRAME` (R128). -/
def chunkTooLong (s : State) : Bool := decide (Config.maxChunk < s.chunkLen.toNat)

/-- The operand fault of `XFER.NEXT` (R128). -/
def chunkMismatch (s : State) : Bool := decide (s.chunkLen.toNat ≠ chunkNeed s)

/-- The count of the tail frame of the transfer (R107): `(NSENT + CTRL.TAILOFF) mod 256`. -/
def tailCount (s : State) : Byte := s.nsent.setWidth 8 + (BitVec.ofBool s.ctrl.tailOff).setWidth 8

/-- `k` of R106: the chunk length of the data frame in flight, `TXF_LEN - 5` (R30). -/
def chunkInFlight (s : State) : Word := s.txfLen.setWidth 32 - 5

/-- The timeout register of the class of the frame in flight (R93), as it stands now. -/
def classTimeout (s : State) : Half :=
  match s.cls with
  | .head => s.timeouts.head
  | .data => s.timeouts.data
  | .tail => s.timeouts.tail
  | .raw => s.timeouts.raw

/-- The timeout a WAIT_ACK step hands to the link: the register's value at the start of the handshake (R29), or its
value now (R93), as the block has it (log 15). -/
def ackTimeout (s : State) : Half := if Config.timeoutReadAtStart then s.startTimeout else classTimeout s

/-- `pct(s, t)` of R110. -/
def percent (sent total : Word) : Word :=
  if total = 0 then 100 else BitVec.ofNat 32 (100 * sent.toNat / total.toNat)

end Sys2Proof.Machine
end

