-- ==== Sys2Proof/Machine/Flags.lean ====
section
/-! DEFINITION. The flags: the derived bits of `STATUS` and the level `IRQ` (10_state.md R28, R36), the codes of the
fields, and the words of the registers that are made of fields (45_control.md R133). -/

namespace Sys2Proof.Machine

/-- The code of `STATUS.STATE` (R15). -/
def EngineState.code : EngineState → BitVec 4
  | .idle => 0
  | .flush => 1
  | .tx => 2
  | .waitAck => 3
  | .settle => 4
  | .waitChunk => 5
  | .error => 6

/-- The code of `STATUS.XPHASE` (R16). -/
def XferPhase.code : XferPhase → BitVec 2
  | .none => 0
  | .head => 1
  | .data => 2
  | .tail => 3

/-- The code of `STATUS.ERRCODE` (R137). -/
def ErrCode.code : ErrCode → BitVec 4
  | .none => 0
  | .protocolViolation => 1
  | .transportIo => 2
  | .ackTimeout => 3
  | .chunkLen => 4
  | .illegalCmd => 5

/-- The code of `RX_INFO.RX_TYPE` (R33). -/
def RxType.code : RxType → BitVec 2
  | .none => 0
  | .head => 1
  | .data => 2
  | .tail => 3

/-- The code of `RX_INFO.RX_CODE` (R33). -/
def RxCode.code : RxCode → BitVec 4
  | .ok => 0
  | .noDelimiter => 1
  | .badLength => 2
  | .badCrc => 3
  | .badComplement => 4
  | .seqErr => 5
  | .notDecoded => 15

/-- `STATUS.BUSY` (R28): STATE is FLUSH, TX, WAIT_ACK or SETTLE. -/
def State.busy (s : State) : Bool :=
  match s.state with
  | .flush | .tx | .waitAck | .settle => true
  | .idle | .waitChunk | .error => false

/-- `STATUS.ERR` (R28). -/
def State.err (s : State) : Bool := s.state == .error

/-- `STATUS.XACT` (R28). -/
def State.xact (s : State) : Bool := s.xphase != .none

/-- The level output `IRQ` (R36). -/
def State.irq (s : State) : Bool := (s.done && s.ctrl.ieDone) || (s.err && s.ctrl.ieErr)

/-- `v << n` in a 32-bit register word (R133). -/
def field {w : Nat} (v : BitVec w) (n : Nat) : Word := v.setWidth 32 <<< n

/-- One flag in a 32-bit register word (R133). -/
def flag (b : Bool) (n : Nat) : Word := field (BitVec.ofBool b) n

/-- The word of `CTRL` (R27). -/
def ctrlWord (s : State) : Word :=
  flag s.ctrl.tailOff 0 ||| flag s.ctrl.sdOk 1 ||| flag s.ctrl.ieDone 2 ||| flag s.ctrl.ieErr 3

/-- The word of `STATUS` (R133). -/
def statusWord (s : State) : Word :=
  flag s.busy 0 ||| flag s.done 1 ||| flag s.err 2 ||| flag s.ovr 3 ||| flag s.rxv 4 ||| flag s.xact 5 |||
    flag s.irq 6 ||| field s.state.code 8 ||| field s.errCode.code 12 ||| field s.lastRx 16 |||
    field s.cls.code 24 ||| field s.xphase.code 26

/-- The word of `RX_INFO` (R33). -/
def rxInfoWord (s : State) : Word :=
  field s.rx.kind.code 0 ||| field s.rx.code.code 4 ||| field s.rx.n 8 ||| field s.rx.chunkLen 16

/-- The word of `RX_CRC` (R33). -/
def rxCrcWord (s : State) : Word := field s.rx.recvCrc 0 ||| field s.rx.calcCrc 16

/-- The word of `RX_TRACK` (R133). -/
def rxTrackWord (s : State) : Word := field s.tracker.exp 0 ||| flag s.tracker.inXfer 8

/-- The word of `ERRINFO` (R35, R138). -/
def errInfoWord (s : State) : Word :=
  field s.errInfo.exp 0 ||| field s.errInfo.rx 8 ||| field s.errInfo.cls 16 ||| field s.errInfo.op 24

/-- A write of `v` to `CTRL` (R27): bits 3:0 are stored. -/
def writeCtrl (v : Word) (s : State) : State :=
  { s with ctrl :=
      { tailOff := v.getLsbD 0, sdOk := v.getLsbD 1, ieDone := v.getLsbD 2, ieErr := v.getLsbD 3 } }

/-- A write of `v` to `STATUS` (R132): `DONE <- DONE & ~v[1]`, `OVR <- OVR & ~v[3]`, nothing else. -/
def writeStatus (v : Word) (s : State) : State :=
  { s with done := s.done && !v.getLsbD 1, ovr := s.ovr && !v.getLsbD 3 }

end Sys2Proof.Machine
end

