-- ==== Sys2Proof/Machine/Ops.lean ====
section
/-! DEFINITION. The shared operations: entering ERROR and leaving it (60_exceptions.md R138, R141), reset
(70_reset_and_hazards.md R152), the frame build primitive (41_frame_encoder.md R84), the acceptance procedure
(45_control.md R127) and the record of link requests and progress events. -/

namespace Sys2Proof.Machine

/-- `STATUS.OVR <- 1`: all a refused command does (R68, R127). -/
def setOvr (s : State) : State := { s with ovr := true }

/-- `raise Error(code, exp, rx, class, op)` of R138: STATE, ERRCODE and ERRINFO change, nothing else does. -/
def raiseError (code : ErrCode) (exp rx : Byte) (cls : BitVec 2) (op : Byte) (s : State) : State :=
  { s with state := .error, errCode := code, errInfo := { exp := exp, rx := rx, cls := cls, op := op } }

/-- Leaving ERROR by `CLEAR` (R130, R141): STATE, ERRCODE, ERRINFO and XPHASE take their IDLE values. -/
def clearError (s : State) : State :=
  { s with state := .idle, errCode := .none, errInfo := { exp := 0, rx := 0, cls := 0, op := 0 }, xphase := .none }

/-- `Reset()` of R152 from a running state: the block takes its reset values under the same parameters; the agents
around it are untouched (R153, log 7, log 8). -/
def resetBlock (s : State) : State := { State.resetWith s.params with env := s.env }

/-- `Build(payload, cls, op)` of R84. -/
def build (payload : List Byte) (cls : FrameClass) (op : Byte) (s : State) : State :=
  { s with
    mem := s.mem.write txfRegion.base (frameOf payload)
    txfLen := BitVec.ofNat 11 (frameOf payload).length
    acc := crc16 payload
    cls := cls
    curOp := op
    done := false
    state := .flush }

/-- A request to the link, recorded (log 8). -/
def logLink (e : LinkEvent) (s : State) : State := { s with env := { s.env with link := s.env.link ++ [e] } }

/-- `emit Progress(PROG_SENT, PROG_TOTAL, pct(PROG_SENT, PROG_TOTAL))` (R106, R109). -/
def emitProgress (s : State) : State :=
  { s with progress := s.progress ++
      [{ sent := s.progSent, total := s.progTotal, percent := percent s.progSent s.progTotal }] }

/-- The groups of the acceptance table (R68); `SRESET` is accepted in every state and stands outside it. -/
inductive CmdGroup where
  | imm | link | next | clear
  deriving DecidableEq, Repr

/-- `Accepts(group, STATE)`: the table of R68. -/
def accepts : CmdGroup → EngineState → Bool
  | .imm, .idle | .imm, .waitChunk | .imm, .error => true
  | .link, .idle => true
  | .next, .waitChunk => true
  | .clear, .idle | .clear, .error => true
  | _, _ => false

/-- An error found at acceptance (R127): raised in IDLE and WAIT_CHUNK, refused with `OVR` elsewhere. -/
def acceptanceError (code : ErrCode) (op : Byte) (s : State) : State :=
  match s.state with
  | .idle | .waitChunk => raiseError code 0 0 0 op s
  | .flush | .tx | .waitAck | .settle | .error => setOvr s

/-- `OnCmdWrite` of R127 for a legal word of group `g` and opcode `op`: the busy refusal, the state refusal, the
operand fault, then `executed`, the state the command's own rule gives. -/
def accept (g : CmdGroup) (op : Byte) (operandFault : Bool) (executed s : State) : State :=
  if s.busy then setOvr s
  else if !accepts g s.state then setOvr s
  else if operandFault then acceptanceError .chunkLen op s
  else executed

/-- `OnCmdWrite` of R127 for a word that is not legal, with opcode field `op` (R69). -/
def illegalCommand (op : Byte) (s : State) : State := acceptanceError .illegalCmd op s

end Sys2Proof.Machine
end

