-- ==== Sys2Proof/Machine/Control.lean ====
section
/-! DEFINITION. The control commands (45_control.md R129 to R131). -/

namespace Sys2Proof.Machine

/-- `NOP` (R129). -/
def execNop (s : State) : Host.Outcome State Fault Refusal := .next (accept .imm 0x00 false s s)

/-- `CLEAR` (R130). -/
def execClear (s : State) : Host.Outcome State Fault Refusal :=
  .next (accept .clear 0x3E false (clearError s) s)

/-- `SRESET` (R131): accepted in every state. -/
def execSreset (s : State) : Host.Outcome State Fault Refusal := .next (resetBlock s)

end Sys2Proof.Machine
end

