-- ==== Sys2Proof/Machine/CrcCommands.lean ====
section
/-! DEFINITION. The CRC commands (40_crc.md R79 to R82). -/

namespace Sys2Proof.Machine

/-- `CRC.INIT` (R79). -/
def execCrcInit (s : State) : Host.Outcome State Fault Refusal :=
  .next (accept .imm 0x01 false { s with acc := 0x0000 } s)

/-- `CRC.BYTE b` (R80). -/
def execCrcByte (b : Byte) (s : State) : Host.Outcome State Fault Refusal :=
  .next (accept .imm 0x02 false { s with acc := crcStep s.acc b } s)

/-- `CRC.FINISH` (R81). -/
def execCrcFinish (s : State) : Host.Outcome State Fault Refusal :=
  .next (accept .imm 0x03 false { s with acc := crcFlush s.acc } s)

/-- `CRC.BUF` (R82). -/
def execCrcBuf (s : State) : Host.Outcome State Fault Refusal :=
  .next (accept .imm 0x04 (chunkTooLong s) { s with acc := crc16 (s.chunkBytes s.chunkLen.toNat) } s)

end Sys2Proof.Machine
end

