-- ==== Sys2Proof/Machine/Decoder.lean ====
section
/-! DEFINITION. The frame decoder (44_frame_decoder.md R114 to R125) and `DECODE`. -/

namespace Sys2Proof.Machine

/-- Byte `i` of a frame (R10). -/
def byteAt (f : List Byte) (i : Nat) : Byte := f.getD i 0x00

/-- `Classify(f, L)` of R116. -/
def classify (f : List Byte) (n : Nat) : RxType :=
  if 4 ≤ n ∧ byteAt f 0 = 0xFE ∧ byteAt f 1 = 0x00 ∧ byteAt f 2 = 0xFF ∧ byteAt f 3 = 0x01 then .head
  else if 1 ≤ n ∧ byteAt f 0 = Config.dataDelim then .data
  else if 1 ≤ n ∧ byteAt f 0 = Config.tailDelim then .tail
  else .none

/-- `LengthOk(t, L)` of R117. -/
def lengthOk (t : RxType) (n : Nat) : Bool :=
  match t with
  | .none => false
  | .head => n == 14
  | .data => decide (5 ≤ n) && decide (n ≤ Config.maxFrame)
  | .tail => n == 5

/-- `BE32^-1` of R10 on the four bytes from index `i`. -/
def be32At (f : List Byte) (i : Nat) : Word :=
  byteAt f i ++ byteAt f (i + 1) ++ byteAt f (i + 2) ++ byteAt f (i + 3)

/-- The CRC trailer as received (R115, R118): the last two bytes, big-endian. -/
def trailer (f : List Byte) (n : Nat) : Half := byteAt f (n - 2) ++ byteAt f (n - 1)

/-- The decoder registers with every field zero: `RX_INFO <- 0; RX_CRC <- 0; RX_LEN <- 0; RX_ADDR <- 0` (R115). -/
def RxRegs.zero : RxRegs :=
  { kind := .none, code := .ok, n := 0, chunkLen := 0, recvCrc := 0, calcCrc := 0, len := 0, addr := 0 }

/-- `Fields(t, f, L)` of R120. -/
def extractFields (t : RxType) (f : List Byte) (n : Nat) (r : RxRegs) : RxRegs :=
  match t with
  | .none => r
  | .head => { r with len := be32At f 4, addr := be32At f 8 }
  | .data => { r with n := byteAt f 1, chunkLen := BitVec.ofNat 11 (n - 5) }
  | .tail => { r with n := byteAt f 1 }

/-- `Track(t, n)` of R121 to R123: the verdict and the tracker after the frame. -/
def track (tailOff : Bool) (t : RxType) (n : Byte) (k : Tracker) : RxCode × Tracker :=
  match t with
  | .none => (.noDelimiter, k)
  | .head => (.ok, { exp := 1, inXfer := true, cnt := 0 })
  | .data =>
    if k.inXfer = true ∧ n = k.exp then (.ok, { k with exp := k.exp + 1, cnt := k.cnt + 1 })
    else (.seqErr, k)
  | .tail =>
    if k.inXfer = true ∧ n = k.cnt.setWidth 8 + (BitVec.ofBool tailOff).setWidth 8 then
      (.ok, { k with inXfer := false })
    else (.seqErr, k)

/-- The part of R115 after the length check: CRC, complement, fields and tracker. -/
def checkFrame (tailOff : Bool) (t : RxType) (f : List Byte) (n : Nat) (k : Tracker) : RxRegs × Tracker :=
  let r : RxRegs := { RxRegs.zero with kind := t, recvCrc := trailer f n, calcCrc := crc16 (f.take (n - 2)) }
  if r.recvCrc ≠ r.calcCrc then ({ r with code := .badCrc }, k)
  else if (t = .data ∨ t = .tail) ∧ byteAt f 2 ≠ ~~~(byteAt f 1) then ({ r with code := .badComplement }, k)
  else
    let v := track tailOff t (byteAt f 1) k
    ({ extractFields t f n r with code := v.1 }, v.2)

/-- The check of R115 on the frame `f` of length `n`, in the order of R124. -/
def decodeFrame (tailOff : Bool) (f : List Byte) (n : Nat) (k : Tracker) : RxRegs × Tracker :=
  if Config.maxFrame < n then ({ RxRegs.zero with code := .badLength }, k)
  else if classify f n = .none then ({ RxRegs.zero with code := .noDelimiter }, k)
  else if lengthOk (classify f n) n = false then
    ({ RxRegs.zero with kind := classify f n, code := .badLength }, k)
  else checkFrame tailOff (classify f n) f n k

/-- The effect of `DECODE` (R115, R125): the decoder registers and the tracker change, nothing else does. -/
def decodeRxf (s : State) : State :=
  let v := decodeFrame s.ctrl.tailOff (s.rxfBytes s.rxfLen.toNat) s.rxfLen.toNat s.tracker
  { s with rx := v.1, tracker := v.2 }

/-- `DECODE` (R115). -/
def execDecode (s : State) : Host.Outcome State Fault Refusal :=
  .next (accept .imm 0x30 false (decodeRxf s) s)

end Sys2Proof.Machine
end

