-- ==== Sys2Proof/Machine/Encoder.lean ====
section
/-! DEFINITION. The low-level send commands (41_frame_encoder.md R85 to R88). Each builds one frame; the handshake
follows in the engine's own steps (Machine/Handshake.lean). -/

namespace Sys2Proof.Machine

/-- `SEND.HEAD` (R85). -/
def execSendHead (s : State) : Host.Outcome State Fault Refusal :=
  .next (accept .link 0x10 false (build (headPayload s.len s.addr) .head 0x10 s) s)

/-- `SEND.DATA n` (R86). -/
def execSendData (n : Byte) (s : State) : Host.Outcome State Fault Refusal :=
  .next (accept .link 0x11 (chunkTooLong s)
    (build (dataPayload n (s.chunkBytes s.chunkLen.toNat)) .data 0x11 s) s)

/-- `SEND.TAIL n` (R87). -/
def execSendTail (n : Byte) (s : State) : Host.Outcome State Fault Refusal :=
  .next (accept .link 0x12 false (build (tailPayload n) .tail 0x12 s) s)

/-- `SEND.FRAME c` (R88). -/
def execSendFrame (c : FrameClass) (s : State) : Host.Outcome State Fault Refusal :=
  .next (accept .link 0x13 (chunkTooLong s) (build (s.chunkBytes s.chunkLen.toNat) c 0x13 s) s)

end Sys2Proof.Machine
end

