-- ==== Sys2Proof/Machine/Sequencer.lean ====
section
/-! DEFINITION. The transfer sequencer (43_transfer_sequencer.md): `XFER.START`, `XFER.NEXT`, and the continuations
of a successful handshake by transfer phase. -/

namespace Sys2Proof.Machine

/-- The counters at the start of a transfer (R103). -/
def startTransfer (s : State) : State :=
  { s with
    remain := s.len
    nsent := 0
    seq := 1
    progSent := 0
    progTotal := BitVec.ofNat 32 (frameCount s.len)
    xphase := .head }

/-- `XFER.START` (R103). -/
def execXferStart (s : State) : Host.Outcome State Fault Refusal :=
  .next (accept .link 0x20 false (build (headPayload s.len s.addr) .head 0x20 (startTransfer s)) s)

/-- `XFER.NEXT` (R105). -/
def execXferNext (s : State) : Host.Outcome State Fault Refusal :=
  .next (accept .next 0x21 (chunkMismatch s)
    (build (dataPayload s.seq (s.chunkBytes s.chunkLen.toNat)) .data 0x21 s) s)

/-- `BuildTail()` of R107: `CUR_OP` keeps its value. -/
def buildTail (s : State) : State :=
  build (tailPayload (tailCount s)) .tail s.curOp { s with xphase := .tail }

/-- Success of the head frame (R104). -/
def headDone (s : State) : State :=
  if s.remain = 0 then buildTail s else { s with xphase := .data, state := .waitChunk }

/-- The counters after a data frame succeeded (R106). -/
def countDataFrame (s : State) : State :=
  { s with
    nsent := s.nsent + 1
    seq := s.seq + 1
    remain := s.remain - chunkInFlight s
    progSent := s.nsent + 1 }

/-- The next frame of the transfer, or its tail (R106). -/
def nextChunk (s : State) : State :=
  if s.remain = 0 then buildTail s else { s with state := .waitChunk }

/-- Success of a data frame (R106). -/
def dataDone (s : State) : State := nextChunk (emitProgress (countDataFrame s))

/-- Success of the tail frame (R108): the settle delay starts, its length read now. -/
def tailDone (s : State) : State := logLink (.settle s.timeouts.settle) { s with state := .settle }

/-- The SETTLE step (R109). -/
def settleStep (s : State) : State :=
  emitProgress { s with xphase := .none, done := true, state := .idle }

end Sys2Proof.Machine
end

