-- ==== Sys2Proof/Machine/Dispatch.lean ====
section
/-! DEFINITION. The dispatch of a command to its meaning: one arm per constructor of `Instr`. A meaning is the whole of
`OnCmdWrite` (45_control.md R127) for a legal word: acceptance, operand fault, and the command's own rule. -/

namespace Sys2Proof.Machine

def exec (i : Instr) (s : State) : Host.Outcome State Fault Refusal :=
  match i with
  | .nop => Sys2Proof.Machine.execNop s
  | .crcInit => Sys2Proof.Machine.execCrcInit s
  | .crcByte b => Sys2Proof.Machine.execCrcByte b s
  | .crcFinish => Sys2Proof.Machine.execCrcFinish s
  | .crcBuf => Sys2Proof.Machine.execCrcBuf s
  | .sendHead => Sys2Proof.Machine.execSendHead s
  | .sendData n => Sys2Proof.Machine.execSendData n s
  | .sendTail n => Sys2Proof.Machine.execSendTail n s
  | .sendFrame c => Sys2Proof.Machine.execSendFrame c s
  | .xferStart => Sys2Proof.Machine.execXferStart s
  | .xferNext => Sys2Proof.Machine.execXferNext s
  | .decode => Sys2Proof.Machine.execDecode s
  | .clear => Sys2Proof.Machine.execClear s
  | .sreset => Sys2Proof.Machine.execSreset s

end Sys2Proof.Machine
end

