-- ==== Sys2Proof/Machine/Handshake.lean ====
section
/-! DEFINITION. The ACK handshake (42_ack_handshake.md): the FLUSH, TX and WAIT_ACK steps of the engine, the verdict
on the byte read, and which engine step a state and a draw give (45_control.md R134, R135). -/

namespace Sys2Proof.Machine

/-- TRANSPORT_IO of a link request that failed (R91, R92, R95). -/
def transportError (s : State) : State := raiseError .transportIo 0 0 s.cls.code s.curOp s

/-- The FLUSH step (R91). It starts the handshake (R90), so the class timeout is read here for a block that reads it
as R29 says (log 15). -/
def flushStep (ok : Bool) (s : State) : State :=
  let t := logLink (.flush ok) s
  if ok then { t with state := .tx, startTimeout := classTimeout s } else transportError t

/-- The TX step (R92): the whole frame is handed to the link. -/
def txStep (ok : Bool) (s : State) : State :=
  let t := logLink (.write s.txFrame ok) s
  if ok then { t with state := .waitAck } else transportError t

/-- `Success()` of R97: the continuation by transfer phase. -/
def success (s : State) : State :=
  match s.xphase with
  | .none => { s with state := .idle, done := true }
  | .head => headDone s
  | .data => dataDone s
  | .tail => tailDone s

/-- The verdict on one byte (R95). -/
def byteVerdict (b : Byte) (s : State) : State :=
  let t := { s with rxv := true, lastRx := b }
  if b = Config.ack then success { t with silentRun := 0 }
  else raiseError .protocolViolation Config.ack b s.cls.code s.curOp t

/-- The verdict on a timeout (R95, R96). -/
def timeoutVerdict (s : State) : State :=
  let t := { s with rxv := false, lastRx := 0x00 }
  if s.cls = .data ∧ s.ctrl.sdOk = false then
    raiseError .ackTimeout Config.ack 0 FrameClass.data.code s.curOp t
  else success { t with silentRun := s.silentRun + 1, silentTotal := s.silentTotal + 1 }

/-- The WAIT_ACK step (R94, R95): one read with the class timeout, and its verdict. The timeout is the value read when
the handshake started (R29) or the one read in this step (R93): `ackTimeout`, log 15. -/
def waitAckStep (r : ReadOutcome) (s : State) : State :=
  let t := logLink (.read (ackTimeout s) r) s
  match r with
  | .err => transportError t
  | .byte b => byteVerdict b t
  | .timeout => timeoutVerdict t

/-- `EngineStep(draw)` of R135 by the table of R134: defined only when the draw fits the state. -/
def engineStep (d : Draw) (s : State) : Host.Outcome State Fault Refusal :=
  match s.state, d with
  | .flush, .flushOk => .next (flushStep true s)
  | .flush, .flushErr => .next (flushStep false s)
  | .tx, .writeOk => .next (txStep true s)
  | .tx, .writeErr => .next (txStep false s)
  | .waitAck, .readByte b => .next (waitAckStep (.byte b) s)
  | .waitAck, .readTimeout => .next (waitAckStep .timeout s)
  | .waitAck, .readErr => .next (waitAckStep .err s)
  | .settle, .noDraw => .next (settleStep s)
  | _, _ => .fault .undefinedEvent

/-- The free draw of an unscheduled engine step (R94, log 2); `none` where the engine takes no step by itself (R134). -/
def freeDraw (s : State) : Option Draw :=
  match s.state with
  | .flush => some (if Config.freeFlush s.env.draws then .flushOk else .flushErr)
  | .tx => some (if Config.freeWrite s.env.draws then .writeOk else .writeErr)
  | .waitAck =>
    some (match Config.freeRead s.env.draws with
      | .byte b => .readByte b
      | .timeout => .readTimeout
      | .err => .readErr)
  | .settle => some .noDraw
  | .idle | .waitChunk | .error => none

end Sys2Proof.Machine
end

