-- ==== Sys2Proof/Machine/Window.lean ====
section
/-! DEFINITION. The host window: the register map (20_memory.md R42), reads (45_control.md R133) and the writes other
than to `CMD` (R132). -/

namespace Sys2Proof.Machine

/-- The registers of the window (R42). -/
inductive Reg where
  | ctrl | cmd | status | crc | len | addr | chunkLen | seq | nsent | remain | progSent | progTotal
  | silentRun | silentTotal | toHead | toData | toTail | toRaw | settle | txfLen | rxfLen | rxInfo | rxCrc
  | rxLen | rxAddr | rxTrack | rxCnt | errInfo
  deriving DecidableEq, Repr

/-- The register map of R42. -/
def regMap : List (Nat × Reg) :=
  [(0x000, .ctrl), (0x004, .cmd), (0x008, .status), (0x00C, .crc), (0x010, .len), (0x014, .addr),
    (0x018, .chunkLen), (0x01C, .seq), (0x020, .nsent), (0x024, .remain),
    (0x028, .progSent), (0x02C, .progTotal), (0x030, .silentRun), (0x034, .silentTotal), (0x038, .toHead),
    (0x03C, .toData), (0x040, .toTail), (0x044, .toRaw), (0x048, .settle),
    (0x04C, .txfLen), (0x050, .rxfLen), (0x054, .rxInfo), (0x058, .rxCrc), (0x05C, .rxLen), (0x060, .rxAddr),
    (0x064, .rxTrack), (0x068, .rxCnt), (0x06C, .errInfo)]

/-- The register at a word address, if one is there. -/
def regAt (a : Nat) : Option Reg := (regMap.find? fun e => e.1 == a).map (·.2)

/-- The word an access at an offset acts on: bits 1:0 are ignored (R47). -/
def wordAddr (off : Offset) : Nat := (off &&& ~~~3).toNat

/-- The value of a register (R14, R133): reserved bits and `CMD` read 0. -/
def readReg (r : Reg) (s : State) : Word :=
  match r with
  | .ctrl => ctrlWord s
  | .cmd => 0
  | .status => statusWord s
  | .crc => s.acc.setWidth 32
  | .len => s.len
  | .addr => s.addr
  | .chunkLen => s.chunkLen.setWidth 32
  | .seq => s.seq.setWidth 32
  | .nsent => s.nsent
  | .remain => s.remain
  | .progSent => s.progSent
  | .progTotal => s.progTotal
  | .silentRun => s.silentRun
  | .silentTotal => s.silentTotal
  | .toHead => s.timeouts.head.setWidth 32
  | .toData => s.timeouts.data.setWidth 32
  | .toTail => s.timeouts.tail.setWidth 32
  | .toRaw => s.timeouts.raw.setWidth 32
  | .settle => s.timeouts.settle.setWidth 32
  | .txfLen => s.txfLen.setWidth 32
  | .rxfLen => s.rxfLen.setWidth 32
  | .rxInfo => rxInfoWord s
  | .rxCrc => rxCrcWord s
  | .rxLen => s.rx.len
  | .rxAddr => s.rx.addr
  | .rxTrack => rxTrackWord s
  | .rxCnt => s.tracker.cnt
  | .errInfo => errInfoWord s

/-- A write to a register (R132): an RW register stores its defined bits, `STATUS` clears its W1C bits, every other
write is ignored (R48). A write to `CMD` is a command and never comes here (R49). -/
def writeReg (r : Reg) (v : Word) (s : State) : State :=
  match r with
  | .ctrl => writeCtrl v s
  | .status => writeStatus v s
  | .len => { s with len := v }
  | .addr => { s with addr := v }
  | .chunkLen => { s with chunkLen := v.setWidth 11 }
  | .toHead => { s with timeouts := { s.timeouts with head := v.setWidth 16 } }
  | .toData => { s with timeouts := { s.timeouts with data := v.setWidth 16 } }
  | .toTail => { s with timeouts := { s.timeouts with tail := v.setWidth 16 } }
  | .toRaw => { s with timeouts := { s.timeouts with raw := v.setWidth 16 } }
  | .settle => { s with timeouts := { s.timeouts with settle := v.setWidth 16 } }
  | .rxfLen => { s with rxfLen := v.setWidth 11 }
  | .cmd | .crc | .seq | .nsent | .remain | .progSent | .progTotal | .silentRun | .silentTotal | .txfLen
  | .rxInfo | .rxCrc | .rxLen | .rxAddr | .rxTrack | .rxCnt | .errInfo => s

/-- A buffer byte as the window shows it; a byte outside the buffers reads 0 (R43, R48). -/
def windowByte (s : State) (a : Nat) : Byte := if inBuffer a then s.mem.read a else 0x00

/-- The word at a buffer or reserved address (R43, R48). -/
def windowWord (s : State) (a : Nat) : Word :=
  ofLe32 (windowByte s a) (windowByte s (a + 1)) (windowByte s (a + 2)) (windowByte s (a + 3))

/-- The bytes of the word `v` at address `a` that lie in the region, stored there (R43): all four, but for the last
word of `RXF`, which holds one byte. -/
def storeIn (r : Region) (a : Nat) (v : Word) (s : State) : State :=
  { s with mem := s.mem.write a ((le32 v).take (r.base + r.size - a)) }

/-- A write of a word to a buffer or reserved address: `CHUNK` and `RXF` store it, `TXF` and reserved offsets ignore
it (R42, R48). -/
def storeWord (a : Nat) (v : Word) (s : State) : State :=
  if chunkRegion.contains a then storeIn chunkRegion a v s
  else if rxfRegion.contains a then storeIn rxfRegion a v s
  else s

/-- `MemRead(offset, 4)` (R133). -/
def hostLoad (off : Offset) (s : State) : Word :=
  match regAt (wordAddr off) with
  | some r => readReg r s
  | none => windowWord s (wordAddr off)

/-- `MemWrite(offset, 4, v)` for every word address but that of `CMD` (R132). -/
def hostStore (off : Offset) (v : Word) (s : State) : State :=
  match regAt (wordAddr off) with
  | some r => writeReg r v s
  | none => storeWord (wordAddr off) v s

end Sys2Proof.Machine
end

