-- ==== Sys2Proof/Machine/Events.lean ====
section
/-! DEFINITION. The events of the step relation (45_control.md R135): a host read, a host write, an engine step with
its draw, and the reset input; and which of them comes next (log 1). -/

namespace Sys2Proof.Machine

/-- The byte offset of `CMD` (20_memory.md R42). -/
def cmdOffset : Offset := 0x004

/-- A host write to `CMD` (R127): a legal word is the command it encodes, any other word is illegal (R69). -/
def onCmdWrite (w : Word) (s : State) : Host.Outcome State Fault Refusal :=
  match decode w with
  | some i => exec i s
  | none => .next (illegalCommand (wordOp w) s)

/-- `HostWrite(offset, value)` (R49, R132). -/
def onHostWrite (off : Offset) (v : Word) (s : State) : Host.Outcome State Fault Refusal :=
  if wordAddr off = wordAddr cmdOffset then onCmdWrite v s else .next (hostStore off v s)

/-- `HostRead(offset)` (R133): the value is output and nothing changes (log 9). -/
def onHostRead (off : Offset) (s : State) : State :=
  { s with env := { s.env with reads := s.env.reads ++ [hostLoad off s] } }

/-- One event (R135, R150). -/
def onEvent (e : Event) (s : State) : Host.Outcome State Fault Refusal :=
  match e with
  | .hostRead off => .next (onHostRead off s)
  | .hostWrite off v => onHostWrite off v s
  | .engineStep d => engineStep d s
  | .resetInput => .next (resetBlock s)

/-- `s` with the events to come replaced. -/
def State.withInputs (s : State) (es : List Event) : State := { s with env := { s.env with inputs := es } }

/-- `s` with one more free draw taken (log 2). -/
def countDraw (s : State) : State := { s with env := { s.env with draws := s.env.draws + 1 } }

/-- With no event scheduled, a busy engine takes its own step with a free draw (R134, log 2); otherwise nothing
happens (60_exceptions.md R149). -/
def unscheduled (s : State) : Host.Outcome State Fault Refusal :=
  match freeDraw s with
  | some d => engineStep d (countDraw s)
  | none => .next s

/-- The next event, taken (R135). -/
def nextEvent (s : State) : Host.Outcome State Fault Refusal :=
  match s.env.inputs with
  | e :: es => onEvent e (s.withInputs es)
  | [] => unscheduled s

end Sys2Proof.Machine
end

