-- ==== Sys2Proof/Machine/Step.lean ====
section
/-! DEFINITION. One step of the machine: the next event of the relation of 45_control.md R135. -/

namespace Sys2Proof.Machine

/-- One step. -/
def step (s : State) : Host.Outcome State Fault Refusal := nextEvent s

/-- `s` where the host's next access writes the command word of the row to `CMD` (R58, log 10): the very next step
runs that command. Nothing else changes. -/
def State.withFetchWord (s : State) (nbits w : Nat) : State :=
  s.withInputs (.hostWrite cmdOffset (tableWord nbits w) :: s.env.inputs)

end Sys2Proof.Machine
end

