-- ==== Sys2Proof/Safety.lean ====
section
/-! DEFINITION. The terms the claims use: what a built frame is, which states accept a command, and the invariants of a
run (10_state.md R40, 20_memory.md R56, 41_frame_encoder.md R89). -/

namespace Sys2Proof.Safety

open Sys2Proof.Machine

/-- The states in which a command is executed (R68); in every other state it is refused. -/
def acceptingStates : Instr → List EngineState
  | .nop | .crcInit | .crcByte _ | .crcFinish | .crcBuf | .decode => [.idle, .waitChunk, .error]
  | .sendHead | .sendData _ | .sendTail _ | .sendFrame _ | .xferStart => [.idle]
  | .xferNext => [.waitChunk]
  | .clear => [.idle, .error]
  | .sreset => [.idle, .flush, .tx, .waitAck, .settle, .waitChunk, .error]

/-- `t` is `s` after the frame of `payload` was built in `TXF` with class `cls` and opcode `op` (R84): the frame is the
payload and its CRC, big-endian; every byte of memory outside `TXF[0:TXF_LEN]` reads as before; `TXF_LEN`, `ACC`,
`CLASS`, `CUR_OP`, `DONE` and STATE change as R84 says, and nothing else does. -/
def FrameBuilt (payload : List Byte) (cls : FrameClass) (op : Byte) (s t : State) : Prop :=
  t.txfLen.toNat = payload.length + 2 ∧
  t.txFrame = payload ++ [(crc16 payload).extractLsb' 8 8, (crc16 payload).extractLsb' 0 8] ∧
  (∀ a, (a < txfRegion.base ∨ txfRegion.base + (payload.length + 2) ≤ a) → t.mem.read a = s.mem.read a) ∧
  t = { s with
    mem := t.mem
    txfLen := t.txfLen
    acc := crc16 payload
    cls := cls
    curOp := op
    done := false
    state := .flush }

/-- `s` with its next event taken and one link request recorded. -/
def afterLink (s : State) (rest : List Event) (e : LinkEvent) : State :=
  { s with env := { s.env with inputs := rest, link := s.env.link ++ [e] } }

/-- `s` with ERROR entered as R138 says, and nothing else changed. -/
def errorEntered (s : State) (code : ErrCode) (exp rx : Byte) (cls : BitVec 2) (op : Byte) : State :=
  { s with state := .error, errCode := code, errInfo := { exp := exp, rx := rx, cls := cls, op := op } }

/-- The draw by which the link answers `Link.Read1` with `r` (45_control.md R135). -/
def readDraw : ReadOutcome → Draw
  | .byte b => .readByte b
  | .timeout => .readTimeout
  | .err => .readErr

/-- The draws that fit a state (R135): a flush draw in FLUSH, a write draw in TX, a read draw in WAIT_ACK, None in
SETTLE. -/
def drawFits : EngineState → Draw → Bool
  | .flush, .flushOk | .flush, .flushErr => true
  | .tx, .writeOk | .tx, .writeErr => true
  | .waitAck, .readByte _ | .waitAck, .readTimeout | .waitAck, .readErr => true
  | .settle, .noDraw => true
  | _, _ => false

/-- The next event is a read that ends the handshake of `s` in success, and `u` is `s` with the read recorded and the
flags and counters of R95 written: an ACK byte, or a timeout that the silent-ACK policy of R96 accepts. -/
def HandshakeSucceeds (s : State) (rest : List Event) (u : State) : Prop :=
  (s.env.inputs = .engineStep (.readByte 0xAA) :: rest ∧
    u = { afterLink s rest (.read (ackTimeout s) (.byte 0xAA)) with
      rxv := true, lastRx := 0xAA, silentRun := 0 }) ∨
  (s.env.inputs = .engineStep .readTimeout :: rest ∧ (s.cls ≠ .data ∨ s.ctrl.sdOk = true) ∧
    u = { afterLink s rest (.read (ackTimeout s) .timeout) with
      rxv := false, lastRx := 0x00, silentRun := s.silentRun + 1, silentTotal := s.silentTotal + 1 })

/-- The commands `is` one after the other, stopping where one does not answer a next state. -/
def execAll : List Instr → State → Host.Outcome State Fault Refusal
  | [], s => .next s
  | i :: is, s =>
    match exec i s with
    | .next t => execAll is t
    | .fault f => .fault f
    | .refused r => .refused r

/-- Byte `k` of `RXF`. -/
def rxfByte (s : State) (k : Nat) : Byte := s.mem.read (0x800 + k)

/-- The first four bytes of `RXF` are the head delimiter (R62, R67). -/
def headDelimited (s : State) : Prop :=
  4 ≤ s.rxfLen.toNat ∧ rxfByte s 0 = 0xFE ∧ rxfByte s 1 = 0x00 ∧ rxfByte s 2 = 0xFF ∧ rxfByte s 3 = 0x01

/-- `RXF[0:RXF_LEN]` has the delimiter and a length of the frame shape `t` (R62 to R64, R116, R117). -/
def shaped (s : State) : RxType → Prop
  | .none => False
  | .head => headDelimited s ∧ s.rxfLen.toNat = 14
  | .data => rxfByte s 0 = 0xDA ∧ 5 ≤ s.rxfLen.toNat ∧ s.rxfLen.toNat ≤ 1029
  | .tail => rxfByte s 0 = 0xED ∧ s.rxfLen.toNat = 5

/-- The CRC trailer in `RXF`, big-endian (R118). -/
def rxfTrailer (s : State) : Half := rxfByte s (s.rxfLen.toNat - 2) ++ rxfByte s (s.rxfLen.toNat - 1)

/-- `crc16` of the payload in `RXF` (R118). -/
def rxfCrc (s : State) : Half := crc16 ((List.range (s.rxfLen.toNat - 2)).map (rxfByte s))

/-- A read only register, the `TXF` window or a reserved word, by word address (R42): a write there is ignored. -/
def ignoresWrites (a : Nat) : Bool :=
  [0x00C, 0x01C, 0x020, 0x024, 0x028, 0x02C, 0x030, 0x034, 0x04C, 0x054, 0x058, 0x05C, 0x060, 0x064, 0x068,
    0x06C].contains a ||
  (decide (0x070 ≤ a) && decide (a ≤ 0x3FC)) || (decide (0xC08 ≤ a) && decide (a ≤ 0x1FFC))

/-- `CMD` or a reserved word, by word address (R42, R48): a read there gives 0. -/
def readsZero (a : Nat) : Bool :=
  a == 0x004 || (decide (0x070 ≤ a) && decide (a ≤ 0x3FC)) || (decide (0xC08 ≤ a) && decide (a ≤ 0xFFC)) ||
    (decide (0x1408 ≤ a) && decide (a ≤ 0x1FFC))

/-- The engine is between the build of a frame and the end of its handshake. -/
def inHandshake (s : State) : Bool :=
  match s.state with
  | .flush | .tx | .waitAck => true
  | .idle | .settle | .waitChunk | .error => false

/-- The control invariant of R40, with the canonical form of memory. -/
structure ControlInv (s : State) : Prop where
  /-- Memory keeps its canonical form. -/
  memWf : s.mem.wf
  /-- Only buffer bytes are listed (R42). -/
  memInBuffers : ∀ c ∈ s.mem.cells, inBuffer c.1 = true
  /-- STATE = IDLE implies XPHASE = NONE. -/
  idleNoTransfer : s.state = .idle → s.xphase = .none
  /-- STATE = WAIT_CHUNK implies XPHASE = DATA. -/
  waitChunkData : s.state = .waitChunk → s.xphase = .data
  /-- STATE = SETTLE implies XPHASE = TAIL. -/
  settleTail : s.state = .settle → s.xphase = .tail
  /-- `ERRCODE ≠ 0` iff STATE = ERROR. -/
  errCodeIff : s.errCode ≠ .none ↔ s.state = .error
  /-- Outside ERROR the error detail is zero (R35, R141). -/
  errInfoZero : s.state ≠ .error → s.errInfo = { exp := 0, rx := 0, cls := 0, op := 0 }
  /-- `TXF_LEN ≤ 1029`. -/
  txfLenBound : s.txfLen.toNat ≤ 1029

/-- The counters of a transfer that began with `LEN = size` (R40, R106, R113). -/
structure TransferLaw (size : Nat) (s : State) : Prop where
  /-- While XPHASE is HEAD or DATA: `SEQ = (NSENT + 1) mod 256`, `REMAIN = LEN_at_start - 1024 * NSENT`, and the
  progress counts are those of R25. -/
  counters : s.xphase = .head ∨ s.xphase = .data →
    s.seq = s.nsent.setWidth 8 + 1 ∧ s.remain.toNat + 1024 * s.nsent.toNat = size ∧
    s.progSent = s.nsent ∧ s.progTotal.toNat = (size + 1023) / 1024
  /-- No data frame was sent before the head frame succeeded. -/
  headFirst : s.xphase = .head → s.nsent = 0
  /-- While XPHASE is DATA there are bytes left to send. -/
  dataLeft : s.xphase = .data → 0 < s.remain.toNat
  /-- The data frame in flight has the length and the seq the counters give (R105). -/
  inFlight : s.xphase = .data → inHandshake s = true →
    s.txfLen.toNat = 5 + min 1024 s.remain.toNat ∧ s.mem.read (txfRegion.base + 1) = s.seq
  /-- From the tail on, every data frame has been sent: `NSENT = PROG_SENT = PROG_TOTAL = ceil(size / 1024)`. -/
  tailCounts : s.xphase = .tail →
    s.remain = 0 ∧ s.nsent.toNat = (size + 1023) / 1024 ∧ s.seq = s.nsent.setWidth 8 + 1 ∧
    s.progSent = s.nsent ∧ s.progTotal = s.nsent

/-- Every frame handed to the link is a payload and its CRC (R89), and so is the frame in `TXF` during a handshake. -/
structure FramesSound (s : State) : Prop where
  inTxf : inHandshake s = true → ∃ payload, s.txFrame = payload ++ be16 (crc16 payload)
  written : ∀ f ok, LinkEvent.write f ok ∈ s.env.link → ∃ payload, f = payload ++ be16 (crc16 payload)

/-- Which link request may follow which (R56, R90, R99): a write only right after a flush that succeeded, a read only
right after a write that succeeded, a settle delay only right after a read that did not fail; nothing but a flush comes
first. -/
def mayFollow : Option LinkEvent → LinkEvent → Bool
  | _, .flush _ => true
  | some (.flush true), .write _ _ => true
  | some (.write _ true), .read _ _ => true
  | some (.read _ (.byte _)), .settle _ => true
  | some (.read _ .timeout), .settle _ => true
  | _, _ => false

/-- A record of link requests in which each may follow the one before it. -/
def linkOrdered : Option LinkEvent → List LinkEvent → Bool
  | _, [] => true
  | prev, e :: es => mayFollow prev e && linkOrdered (some e) es

/-- The link requests so far are in the order of R56, and STATE says which came last. -/
structure WireOrder (s : State) : Prop where
  ordered : linkOrdered none s.env.link = true
  beforeWrite : s.state = .tx → s.env.link.getLast? = some (.flush true)
  beforeRead : s.state = .waitAck → ∃ f, s.env.link.getLast? = some (.write f true)

end Sys2Proof.Safety
end

