-- ==== Sys2Proof/Certificates/Slice0/Obligations.lean ====
section
/-! DEFINITION. The statements for the provers. Each docstring names the rule of spec/ that the statement formalises, or
the log entry of the model's choice it rests on. Throughout, the next event stands first in `env.inputs` (log 1), and a
buffer byte is read at its window offset (log 11). -/

open Sys2Proof Sys2Proof.Machine Sys2Proof.Safety

/-! ### Encoding -/

/-- Every command's word decodes to that command, operand and all (R58, R59, R60). -/
def Obligations.DecodeReadsBackEveryEncoding : Prop :=
  ∀ i : Instr, decode (encode i) = some i

/-- Every word that decodes is the one encoding of its command (R60): no two words mean one command. -/
def Obligations.EncodingIsTheOnlyWordOfItsCommand : Prop :=
  ∀ (w : Word) (i : Instr), decode w = some i → encode i = w

/-- The predicate of legality is that of R61, on the bits of the word alone, and the decoder answers exactly on the legal
words. -/
def Obligations.DecodeAnswersExactlyOnLegalWords : Prop :=
  ∀ w : Word,
    (legal w = true ↔ w.extractLsb' 16 16 = 0 ∧
      (w.extractLsb' 0 8 ∈ ([0x02, 0x11, 0x12] : List Byte) ∨
        (w.extractLsb' 0 8 = 0x13 ∧ w.extractLsb' 10 6 = 0) ∨
        (w.extractLsb' 0 8 ∈ ([0x00, 0x01, 0x03, 0x04, 0x10, 0x20, 0x21, 0x30, 0x3E, 0x3F] : List Byte) ∧
          w.extractLsb' 8 8 = 0))) ∧
    (decode w).isSome = legal w

/-- Words written out in 95_test_vectors.md decode to the commands they stand for (R60). -/
def Obligations.SampleWordsDecode : Prop :=
  decode 0x00003302 = some (.crcByte 0x33) ∧ decode 0x00000010 = some .sendHead ∧
  decode 0x00000111 = some (.sendData 0x01) ∧ decode 0x00000313 = some (.sendFrame .raw) ∧
  decode 0x00000021 = some .xferNext ∧ decode 0x00000030 = some .decode ∧ decode 0x0000003F = some .sreset ∧
  decode 0x00000413 = none ∧ decode 0x0010003F = none ∧ decode 0x00000105 = none

/-! ### The step and acceptance -/

/-- When the next event writes a legal word to `CMD`, at any offset of that word (R47), the step is `exec` of the
command it encodes, on the state with the event taken (R127, R135). -/
def Obligations.StepRunsTheDecodedCommand : Prop :=
  ∀ (s : State) (off : Offset) (w : Word) (rest : List Event) (i : Instr),
    s.env.inputs = .hostWrite off w :: rest → off &&& ~~~3 = 0x004 → decode w = some i →
    step s = exec i (s.withInputs rest)

/-- A word that is not legal raises ILLEGAL_CMD in IDLE and WAIT_CHUNK, with its opcode field as `ERR_OP`; in ERROR and
in the busy states it only sets `OVR`. `SRESET` is exactly the word 0x0000003F: any other word with that opcode is not
legal (R69). -/
def Obligations.IllegalWordRaisesOrOverruns : Prop :=
  (∀ (s : State) (off : Offset) (w : Word) (rest : List Event),
    s.env.inputs = .hostWrite off w :: rest → off &&& ~~~3 = 0x004 → legal w = false →
    step s = .next (if s.state = .idle ∨ s.state = .waitChunk
      then errorEntered (s.withInputs rest) .illegalCmd 0 0 0 (w.extractLsb' 0 8)
      else { s.withInputs rest with ovr := true })) ∧
  ∀ w : Word, (decode w = some .sreset ↔ w = 0x0000003F) ∧
    (w.extractLsb' 0 8 = 0x3F → w ≠ 0x0000003F → legal w = false)

/-- In FLUSH, TX, WAIT_ACK and SETTLE every word but that of `SRESET`, legal or not, only sets `OVR` (R127, R136). -/
def Obligations.BusyBlockRefusesEveryWord : Prop :=
  ∀ (s : State) (off : Offset) (w : Word) (rest : List Event),
    s.env.inputs = .hostWrite off w :: rest → off &&& ~~~3 = 0x004 → w ≠ 0x0000003F →
    s.state ∈ [EngineState.flush, .tx, .waitAck, .settle] →
    step s = .next { s.withInputs rest with ovr := true }

/-- A command in a state that does not accept it changes nothing but `OVR` (R68). -/
def Obligations.RefusedCommandOnlySetsOverrun : Prop :=
  ∀ (i : Instr) (s : State), s.state ∉ acceptingStates i → exec i s = .next { s with ovr := true }

/-- The machine stops only on an engine step for which the relation of R135 is not defined: the draw does not fit the
state. No host access, no reset and no command ever faults or is refused by the model (R47). That such an event stops
the model is the model's choice (log 3). -/
def Obligations.StopsOnlyOnUndefinedEngineSteps : Prop :=
  ∀ s : State,
    ((∃ f, step s = .fault f) ↔ ∃ d rest, s.env.inputs = .engineStep d :: rest ∧ drawFits s.state d = false) ∧
    ∀ r, step s ≠ .refused r

/-! ### CRC -/

/-- The table entries R75 lists. -/
def crcListing : List Half :=
  [0x0000, 0x1021, 0x2042, 0x3063, 0x4084, 0x50A5, 0x60C6, 0x70E7,
    0x8108, 0x9129, 0xA14A, 0xB16B, 0xC18C, 0xD1AD, 0xE1CE, 0xF1EF,
    0x1231, 0x0210, 0x3273, 0x2252, 0x52B5, 0x4294, 0x72F7, 0x62D6,
    0x9339, 0x8318, 0xB37B, 0xA35A, 0xD3BD, 0xC39C, 0xF3FF, 0xE3DE,
    0x2462, 0x3443, 0x0420, 0x1401, 0x64E6, 0x74C7, 0x44A4, 0x5485,
    0xA56A, 0xB54B, 0x8528, 0x9509, 0xE5EE, 0xF5CF, 0xC5AC, 0xD58D,
    0x3653, 0x2672, 0x1611, 0x0630, 0x76D7, 0x66F6, 0x5695, 0x46B4,
    0xB75B, 0xA77A, 0x9719, 0x8738, 0xF7DF, 0xE7FE, 0xD79D, 0xC7BC] ++
  [0x48C4, 0x58E5, 0x6886, 0x78A7, 0x0840, 0x1861, 0x2802, 0x3823,
    0xC9CC, 0xD9ED, 0xE98E, 0xF9AF, 0x8948, 0x9969, 0xA90A, 0xB92B,
    0x5AF5, 0x4AD4, 0x7AB7, 0x6A96, 0x1A71, 0x0A50, 0x3A33, 0x2A12,
    0xDBFD, 0xCBDC, 0xFBBF, 0xEB9E, 0x9B79, 0x8B58, 0xBB3B, 0xAB1A,
    0x6CA6, 0x7C87, 0x4CE4, 0x5CC5, 0x2C22, 0x3C03, 0x0C60, 0x1C41,
    0xEDAE, 0xFD8F, 0xCDEC, 0xDDCD, 0xAD2A, 0xBD0B, 0x8D68, 0x9D49,
    0x7E97, 0x6EB6, 0x5ED5, 0x4EF4, 0x3E13, 0x2E32, 0x1E51, 0x0E70,
    0xFF9F, 0xEFBE, 0xDFDD, 0xCFFC, 0xBF1B, 0xAF3A, 0x9F59, 0x8F78] ++
  [0x9188, 0x81A9, 0xB1CA, 0xA1EB, 0xD10C, 0xC12D, 0xF14E, 0xE16F,
    0x1080, 0x00A1, 0x30C2, 0x20E3, 0x5004, 0x4025, 0x7046, 0x6067,
    0x83B9, 0x9398, 0xA3FB, 0xB3DA, 0xC33D, 0xD31C, 0xE37F, 0xF35E,
    0x02B1, 0x1290, 0x22F3, 0x32D2, 0x4235, 0x5214, 0x6277, 0x7256,
    0xB5EA, 0xA5CB, 0x95A8, 0x8589, 0xF56E, 0xE54F, 0xD52C, 0xC50D,
    0x34E2, 0x24C3, 0x14A0, 0x0481, 0x7466, 0x6447, 0x5424, 0x4405,
    0xA7DB, 0xB7FA, 0x8799, 0x97B8, 0xE75F, 0xF77E, 0xC71D, 0xD73C,
    0x26D3, 0x36F2, 0x0691, 0x16B0, 0x6657, 0x7676, 0x4615, 0x5634] ++
  [0xD94C, 0xC96D, 0xF90E, 0xE92F, 0x99C8, 0x89E9, 0xB98A, 0xA9AB,
    0x5844, 0x4865, 0x7806, 0x6827, 0x18C0, 0x08E1, 0x3882, 0x28A3,
    0xCB7D, 0xDB5C, 0xEB3F, 0xFB1E, 0x8BF9, 0x9BD8, 0xABBB, 0xBB9A,
    0x4A75, 0x5A54, 0x6A37, 0x7A16, 0x0AF1, 0x1AD0, 0x2AB3, 0x3A92,
    0xFD2E, 0xED0F, 0xDD6C, 0xCD4D, 0xBDAA, 0xAD8B, 0x9DE8, 0x8DC9,
    0x7C26, 0x6C07, 0x5C64, 0x4C45, 0x3CA2, 0x2C83, 0x1CE0, 0x0CC1,
    0xEF1F, 0xFF3E, 0xCF5D, 0xDF7C, 0xAF9B, 0xBFBA, 0x8FD9, 0x9FF8,
    0x6E17, 0x7E36, 0x4E55, 0x5E74, 0x2E93, 0x3EB2, 0x0ED1, 0x1EF0]

/-- The generating procedure gives the 256 values listed in 40_crc.md section 1; the spec marks the procedure as general
knowledge and the values as derived from it. -/
def Obligations.CrcTableMatchesListing : Prop :=
  crcListing.length = 256 ∧ ∀ i : Byte, crcListing[i.toNat]? = some (crcTable i)

/-- `crc16([]) = 0x0000`, and `crc16([b]) = T[b]` (an inference the spec marks as its own at R77:
"[derived]"). -/
def Obligations.CrcOfEmptyAndSingleByte : Prop :=
  crc16 [] = 0x0000 ∧ ∀ b : Byte, crc16 [b] = crcTable b

/-- The CRC with its two flush steps equals the direct table algorithm with none (property (b) that the spec
marks as derived from R75 to R77). -/
def Obligations.CrcEqualsDirectTableAlgorithm : Prop :=
  ∀ bs : List Byte, crc16 bs = bs.foldl (fun (c : Half) (b : Byte) => (c <<< 8) ^^^ crcTable (c.extractLsb' 8 8 ^^^ b)) 0x0000

/-- A payload followed by its CRC, big-endian, has CRC zero (property (d) that the spec marks as derived from R75 to
R77). -/
def Obligations.CrcResidueIsZero : Prop :=
  ∀ p : List Byte, crc16 (p ++ [(crc16 p).extractLsb' 8 8, (crc16 p).extractLsb' 0 8]) = 0x0000

/-- Changing one byte of a sequence, wherever it stands, changes its CRC (the reason the spec gives, from general
knowledge, at the end of 44_frame_decoder.md section 4). -/
def Obligations.CrcDetectsOneByteChange : Prop :=
  ∀ (p q : List Byte) (b b' : Byte), b ≠ b' → crc16 (p ++ b :: q) ≠ crc16 (p ++ b' :: q)

/-- `CRC.INIT`, `CRC.BYTE`, `CRC.FINISH` and `CRC.BUF` in IDLE, WAIT_CHUNK and ERROR write `ACC` as R79 to R82 say and
change nothing else; `CRC.BUF` where `CHUNK_LEN` is at most 1024. -/
def Obligations.CrcCommandsWriteOnlyAcc : Prop :=
  ∀ (s : State) (b : Byte), s.state ∈ [EngineState.idle, .waitChunk, .error] →
    exec .crcInit s = .next { s with acc := 0x0000 } ∧
    exec (.crcByte b) s =
      .next { s with acc := ((s.acc <<< 8) ||| b.setWidth 16) ^^^ crcTable (s.acc.extractLsb' 8 8) } ∧
    exec .crcFinish s = .next { s with acc := crcStep (crcStep s.acc 0x00) 0x00 } ∧
    (s.chunkLen.toNat ≤ 1024 →
      exec .crcBuf s =
        .next { s with acc := crc16 ((List.range s.chunkLen.toNat).map fun k => s.mem.read (0x400 + k)) })

/-- `CRC.INIT`, one `CRC.BYTE` per byte, `CRC.FINISH` leave the CRC of the bytes in `ACC` and change nothing else: an
inference the spec marks as its own (40_crc.md section 2, "[derived: from rule R77]"), from R77, R79 and R80 and the flush
of the third command. -/
def Obligations.CrcByteSequenceComputesCrc : Prop :=
  ∀ (bs : List Byte) (s : State), s.state ∈ [EngineState.idle, .waitChunk, .error] →
    execAll (.crcInit :: bs.map .crcByte ++ [.crcFinish]) s = .next { s with acc := crc16 bs }

/-- The operand faults of R128: CHUNK_LEN (code 4) with the command's opcode as `ERR_OP` in IDLE and WAIT_CHUNK, and
`OVR` only for `CRC.BUF` in ERROR; and no other command, and no other chunk length, has an operand fault. -/
def Obligations.ChunkLengthFaults : Prop :=
  (∀ (s : State) (n : Byte) (c : FrameClass),
    (1024 < s.chunkLen.toNat →
      (s.state = .idle ∨ s.state = .waitChunk →
        exec .crcBuf s = .next (errorEntered s .chunkLen 0 0 0 0x04)) ∧
      (s.state = .error → exec .crcBuf s = .next { s with ovr := true }) ∧
      (s.state = .idle →
        exec (.sendData n) s = .next (errorEntered s .chunkLen 0 0 0 0x11) ∧
        exec (.sendFrame c) s = .next (errorEntered s .chunkLen 0 0 0 0x13))) ∧
    (s.state = .waitChunk → s.chunkLen.toNat ≠ min 1024 s.remain.toNat →
      exec .xferNext s = .next (errorEntered s .chunkLen 0 0 0 0x21))) ∧
  ∀ (i : Instr) (s t : State), exec i s = .next t → s.state ≠ .error → t.state = .error →
    ((i = .crcBuf ∨ (∃ n, i = .sendData n) ∨ ∃ c, i = .sendFrame c) ∧ 1024 < s.chunkLen.toNat) ∨
    (i = .xferNext ∧ s.chunkLen.toNat ≠ min 1024 s.remain.toNat)

/-! ### Building frames -/

/-- `SEND.HEAD` in IDLE builds the head frame of `LEN` and `ADDR` (R62, R84, R85). The bytes stored are
`TXF[0:14]`; every other byte of memory is unchanged. -/
def Obligations.SendHeadBuildsHeadFrame : Prop :=
  ∀ s : State, s.state = .idle →
    ∃ t, exec .sendHead s = .next t ∧
      FrameBuilt ([0xFE, 0x00, 0xFF, 0x01] ++ be32 s.len ++ be32 s.addr) .head 0x10 s t

/-- `SEND.DATA n` in IDLE with `CHUNK_LEN` at most 1024 builds the data frame numbered `n` of `CHUNK[0:CHUNK_LEN]`
(R63, R84, R86). -/
def Obligations.SendDataBuildsDataFrame : Prop :=
  ∀ (s : State) (n : Byte), s.state = .idle → s.chunkLen.toNat ≤ 1024 →
    ∃ t, exec (.sendData n) s = .next t ∧
      FrameBuilt ([0xDA, n, ~~~n] ++ (List.range s.chunkLen.toNat).map fun k => s.mem.read (0x400 + k))
        .data 0x11 s t

/-- `SEND.TAIL n` in IDLE builds the tail frame of count `n` (R64, R84, R87). -/
def Obligations.SendTailBuildsTailFrame : Prop :=
  ∀ (s : State) (n : Byte), s.state = .idle →
    ∃ t, exec (.sendTail n) s = .next t ∧ FrameBuilt [0xED, n, ~~~n] .tail 0x12 s t

/-- `SEND.FRAME c` in IDLE with `CHUNK_LEN` at most 1024 builds the frame of the payload `CHUNK[0:CHUNK_LEN]`, whatever
its shape, with class `c` (R84, R88). -/
def Obligations.SendFrameBuildsAnyPayload : Prop :=
  ∀ (s : State) (c : FrameClass), s.state = .idle → s.chunkLen.toNat ≤ 1024 →
    ∃ t, exec (.sendFrame c) s = .next t ∧
      FrameBuilt ((List.range s.chunkLen.toNat).map fun k => s.mem.read (0x400 + k)) c 0x13 s t

/-- `XFER.START` in IDLE sets the transfer counters and builds the head frame of `LEN` and `ADDR` (R84, R103). -/
def Obligations.XferStartBuildsHeadFrame : Prop :=
  ∀ s : State, s.state = .idle →
    ∃ t, exec .xferStart s = .next t ∧
      FrameBuilt ([0xFE, 0x00, 0xFF, 0x01] ++ be32 s.len ++ be32 s.addr) .head 0x20
        { s with
          remain := s.len
          nsent := 0
          seq := 1
          progSent := 0
          progTotal := BitVec.ofNat 32 ((s.len.toNat + 1023) / 1024)
          xphase := .head } t

/-- `XFER.NEXT` in WAIT_CHUNK with `CHUNK_LEN = min(1024, REMAIN)` builds the data frame of the chunk with seq `SEQ`; no
counter changes yet (R63, R84, R105). -/
def Obligations.XferNextBuildsDataFrame : Prop :=
  ∀ s : State, s.state = .waitChunk → s.chunkLen.toNat = min 1024 s.remain.toNat →
    ∃ t, exec .xferNext s = .next t ∧
      FrameBuilt ([0xDA, s.seq, ~~~s.seq] ++
        (List.range s.chunkLen.toNat).map fun k => s.mem.read (0x400 + k)) .data 0x21 s t

/-! ### The handshake -/

/-- The FLUSH step: STATE goes to TX on `ok`, and TRANSPORT_IO with the frame's class and `CUR_OP` is raised on `err`
(R91). On `ok` the step holds the value of the class's timeout register at the start of the handshake (R29, R90), in a
field of the model's own (log 15). That the request is recorded is the model's choice (log 8). -/
def Obligations.FlushStepOutcomes : Prop :=
  ∀ (s : State) (rest : List Event), s.state = .flush →
    (s.env.inputs = .engineStep .flushOk :: rest →
      step s = .next { afterLink s rest (.flush true) with
        state := .tx
        startTimeout := match s.cls with
          | .head => s.timeouts.head
          | .data => s.timeouts.data
          | .tail => s.timeouts.tail
          | .raw => s.timeouts.raw }) ∧
    (s.env.inputs = .engineStep .flushErr :: rest →
      step s = .next (errorEntered (afterLink s rest (.flush false)) .transportIo 0 0 s.cls.code s.curOp))

/-- The TX step: the whole frame `TXF[0:TXF_LEN]`, index 0 first, is handed to the link; STATE goes to WAIT_ACK on `ok`,
and TRANSPORT_IO is raised on `err` (R92). That the request is recorded is the model's choice (log 8). -/
def Obligations.TxStepOutcomes : Prop :=
  ∀ (s : State) (rest : List Event), s.state = .tx →
    (s.env.inputs = .engineStep .writeOk :: rest →
      step s = .next { afterLink s rest
        (.write ((List.range s.txfLen.toNat).map fun k => s.mem.read (0x1000 + k)) true) with state := .waitAck }) ∧
    (s.env.inputs = .engineStep .writeErr :: rest →
      step s = .next (errorEntered (afterLink s rest
        (.write ((List.range s.txfLen.toNat).map fun k => s.mem.read (0x1000 + k)) false))
        .transportIo 0 0 s.cls.code s.curOp))

/-- The WAIT_ACK step asks the link for one read, with the timeout register of the frame's class (R93, R99): the value
held since the handshake started in a block that reads it as R29 says, the value it has in this step in a block that
reads it as R93 says. Which of the two a block does is free (log 15); that the read is recorded is the model's choice
(log 8). Only a FLUSH step or a reset changes the held value. -/
def Obligations.WaitAckReadsOnceWithTheClassTimeout : Prop :=
  (∀ (s : State) (rest : List Event) (r : ReadOutcome), s.state = .waitAck →
    s.env.inputs = .engineStep (readDraw r) :: rest →
    ∃ t more, step s = .next t ∧
      t.env.link = s.env.link ++ .read (if Config.timeoutReadAtStart then s.startTimeout else match s.cls with
        | .head => s.timeouts.head
        | .data => s.timeouts.data
        | .tail => s.timeouts.tail
        | .raw => s.timeouts.raw) r :: more ∧
      ∀ e ∈ more, ∃ d, e = .settle d) ∧
  ∀ s t : State, s.state ≠ .flush → step s = .next t →
    t.startTimeout = s.startTimeout ∨ ∃ e, t = { State.resetWith s.params with env := e }

/-- A response byte 0xAA never raises an error; any other byte always raises PROTOCOL_VIOLATION (R95; the spec marks
this property of the source as derived from it). -/
def Obligations.AckByteNeverErrsAndOtherBytesAlwaysDo : Prop :=
  ∀ (s : State) (rest : List Event) (b : Byte), s.state = .waitAck →
    s.env.inputs = .engineStep (.readByte b) :: rest →
    ∃ t, step s = .next t ∧ (b = 0xAA → t.state ≠ .error) ∧
      (b ≠ 0xAA → t.state = .error ∧ t.errCode = .protocolViolation)

/-- The failing verdicts of WAIT_ACK and what each leaves written (R95, R138): a byte other than 0xAA, a failed read,
and a timeout after a DATA frame with `CTRL.SDOK` = 0. That the read is recorded is the model's choice (log 8). Its
timeout is the one the block reads at the start of the handshake or in this step (log 15). -/
def Obligations.FailedHandshakeRecordsItsError : Prop :=
  ∀ (s : State) (rest : List Event), s.state = .waitAck →
    (∀ b : Byte, b ≠ 0xAA → s.env.inputs = .engineStep (.readByte b) :: rest →
      step s = .next (errorEntered
        { afterLink s rest (.read (ackTimeout s) (.byte b)) with rxv := true, lastRx := b }
        .protocolViolation 0xAA b s.cls.code s.curOp)) ∧
    (s.env.inputs = .engineStep .readErr :: rest →
      step s = .next (errorEntered (afterLink s rest (.read (ackTimeout s) .err))
        .transportIo 0 0 s.cls.code s.curOp)) ∧
    (s.cls = .data → s.ctrl.sdOk = false → s.env.inputs = .engineStep .readTimeout :: rest →
      step s = .next (errorEntered
        { afterLink s rest (.read (ackTimeout s) .timeout) with rxv := false, lastRx := 0x00 }
        .ackTimeout 0xAA 0 1 s.curOp))

/-- A successful handshake outside a transfer ends in IDLE with `DONE` set (R95, R97). That the read is recorded is the
model's choice (log 8). Its timeout is the one the block reads at the start of the handshake or in this step (log
15). -/
def Obligations.SingleFrameSucceeds : Prop :=
  ∀ (s u : State) (rest : List Event), s.state = .waitAck → s.xphase = .none → HandshakeSucceeds s rest u →
    step s = .next { u with state := .idle, done := true }

/-! ### The sequencer -/

/-- Success of the head frame: WAIT_CHUNK if bytes remain, else the tail frame is built in the same step, with count
`(NSENT + CTRL.TAILOFF) mod 256` and `CUR_OP` kept (R104, R107). That the read is recorded is the model's choice (log
8). Its timeout is the one the block reads at the start of the handshake or in this step (log 15). -/
def Obligations.HeadSuccessContinuesTheTransfer : Prop :=
  ∀ (s u : State) (rest : List Event), s.state = .waitAck → s.xphase = .head → HandshakeSucceeds s rest u →
    (s.remain ≠ 0 → step s = .next { u with xphase := .data, state := .waitChunk }) ∧
    (s.remain = 0 → ∃ (n : Byte) (t : State),
      n = s.nsent.setWidth 8 + (if s.ctrl.tailOff then 1 else 0) ∧ step s = .next t ∧
      FrameBuilt [0xED, n, ~~~n] .tail s.curOp { u with xphase := .tail } t)

/-- Success of a data frame: the counters of R106, one progress event, and WAIT_CHUNK if bytes remain, else the tail
frame in the same step (R106, R107, R110). That the read is recorded is the model's choice (log 8), and so is what the
formulas give in states no run reaches (`TXF_LEN` below 5, a percent over 32 bits: log 12). The read's timeout is the
one the block reads at the start of the handshake or in this step (log 15). -/
def Obligations.DataSuccessCountsAndContinues : Prop :=
  ∀ (s u v : State) (rest : List Event), s.state = .waitAck → s.xphase = .data → HandshakeSucceeds s rest u →
    v = { u with
      nsent := s.nsent + 1
      seq := s.seq + 1
      remain := s.remain - (s.txfLen.setWidth 32 - 5)
      progSent := s.nsent + 1
      progress := s.progress ++ [{
        sent := s.nsent + 1
        total := s.progTotal
        percent := if s.progTotal = 0 then 100
          else BitVec.ofNat 32 (100 * (s.nsent + 1).toNat / s.progTotal.toNat) }] } →
    (v.remain ≠ 0 → step s = .next { v with state := .waitChunk }) ∧
    (v.remain = 0 → ∃ (n : Byte) (t : State),
      n = v.nsent.setWidth 8 + (if s.ctrl.tailOff then 1 else 0) ∧ step s = .next t ∧
      FrameBuilt [0xED, n, ~~~n] .tail s.curOp { v with xphase := .tail } t)

/-- Success of the tail frame of a transfer: STATE goes to SETTLE, and the delay is the value of `SETTLE` read in this
step (R108). That the delay's start is recorded among the link requests is the model's choice (log 8). The read's
timeout is the one the block reads at the start of the handshake or in this step (log 15). -/
def Obligations.TailSuccessStartsTheSettleDelay : Prop :=
  ∀ (s u : State) (rest : List Event), s.state = .waitAck → s.xphase = .tail → HandshakeSucceeds s rest u →
    step s = .next { u with
      state := .settle
      env := { u.env with link := u.env.link ++ [.settle s.timeouts.settle] } }

/-- The SETTLE step ends the transfer: XPHASE NONE, `DONE` set, one last progress event, STATE IDLE (R109). What the
percent gives in states no run reaches is the model's choice (log 12). -/
def Obligations.SettleStepEndsTheTransfer : Prop :=
  ∀ (s : State) (rest : List Event), s.state = .settle → s.env.inputs = .engineStep .noDraw :: rest →
    step s = .next { s.withInputs rest with
      xphase := .none
      done := true
      progress := s.progress ++ [{
        sent := s.progSent
        total := s.progTotal
        percent := if s.progTotal = 0 then 100
          else BitVec.ofNat 32 (100 * s.progSent.toNat / s.progTotal.toNat) }]
      state := .idle }

/-- One data frame of a transfer, from WAIT_CHUNK: with the right chunk length, the command and three link answers take
four steps that send exactly the data frame of the chunk, with seq `SEQ`, and advance the counters; the block then waits
for the next chunk, or has built the tail (R92, R102, R105, R106). What was sent is seen in
the record of link requests, which is the model's choice (log 8). The read asks for `TO_DATA`, whichever of R29 and R93
the block follows, since no host write falls between the FLUSH step and the read. -/
def Obligations.DataFrameRoundSendsOneChunk : Prop :=
  ∀ (s : State) (rest : List Event), s.state = .waitChunk → s.xphase = .data →
    s.chunkLen.toNat = min 1024 s.remain.toNat → 0 < s.remain.toNat →
    s.env.inputs = .hostWrite 0x004 0x00000021 :: .engineStep .flushOk :: .engineStep .writeOk ::
      .engineStep (.readByte 0xAA) :: rest →
    ∃ (p : List Byte) (t : State),
      p = [0xDA, s.seq, ~~~s.seq] ++ (List.range s.chunkLen.toNat).map (fun k => s.mem.read (0x400 + k)) ∧
      Sys2Proof.core.run 4 s = .next t ∧
      t.env.link = s.env.link ++ [.flush true,
        .write (p ++ [(crc16 p).extractLsb' 8 8, (crc16 p).extractLsb' 0 8]) true,
        .read s.timeouts.data (.byte 0xAA)] ∧
      t.nsent = s.nsent + 1 ∧ t.seq = s.seq + 1 ∧ t.progSent = s.nsent + 1 ∧
      t.remain.toNat = s.remain.toNat - s.chunkLen.toNat ∧
      (t.remain ≠ 0 → t.state = .waitChunk ∧ t.xphase = .data) ∧
      (t.remain = 0 → t.state = .flush ∧ t.xphase = .tail ∧ t.cls = .tail)

/-! ### Invariants -/

/-- Every step keeps the invariant of 10_state.md section 8, which the spec marks as derived from the rules, from every
state that has it. The canonical form of memory in it is the model's choice (log 11). -/
def Obligations.StepKeepsTheControlInvariant : Prop :=
  ∀ s t : State, ControlInv s → step s = .next t → ControlInv t

/-- Every step of a transfer keeps its counter laws: `SEQ`, `NSENT`, `REMAIN` and the progress counts agree with the
image's size, and from the tail on exactly `ceil(size / 1024)` data frames have succeeded (R103 to R109; the
spec marks the laws of 10_state.md section 8 and 43_transfer_sequencer.md section 3 as derived from these). -/
def Obligations.StepKeepsTheTransferLaw : Prop :=
  ∀ (size : Nat) (s t : State), ControlInv s → s.xphase ≠ .none → TransferLaw size s → step s = .next t →
    TransferLaw size t

/-- `XFER.START` in IDLE starts a transfer whose counters obey the law for `size = LEN` (R103). -/
def Obligations.XferStartEstablishesTheTransferLaw : Prop :=
  ∀ s t : State, s.state = .idle → exec .xferStart s = .next t →
    TransferLaw s.len.toNat t ∧ t.xphase = .head

/-- Every step keeps the frames sound: what the block hands to the link is a payload followed by its CRC, whatever the
host writes meanwhile (R55, R84, R92). The record of what is handed over is the model's choice (log 8). -/
def Obligations.StepKeepsFramesSound : Prop :=
  ∀ s t : State, FramesSound s → step s = .next t → FramesSound t

/-- Every step keeps the order of link requests: flush, then write, then one read (R56, R90, R99). The record is
the model's choice (log 8). -/
def Obligations.StepKeepsTheWireOrder : Prop :=
  ∀ s t : State, WireOrder s → step s = .next t → WireOrder t

/-- The invariants hold after reset, for every value of the reset parameters and every schedule of events (R152). The record of link requests,
empty at reset, is the model's choice (log 8), and so is the canonical form of memory (log 11). -/
def Obligations.ResetEstablishesTheInvariants : Prop :=
  ∀ (p : Params) (es : List Event),
    ControlInv ((State.resetWith p).withInputs es) ∧ FramesSound ((State.resetWith p).withInputs es) ∧
      WireOrder ((State.resetWith p).withInputs es)

/-- With no event scheduled, nothing changes in IDLE, WAIT_CHUNK and ERROR, and a busy engine takes its own step, with a
draw that fits its state, and leaves that state, whatever the link answers (R134, R149). That an empty schedule means
this, and that a taken draw is counted, is the model's choice (log 1, log 2). -/
def Obligations.UnscheduledEngineStepsOrRests : Prop :=
  ∀ s : State, s.env.inputs = [] →
    (s.state ∈ [EngineState.idle, .waitChunk, .error] → step s = .next s) ∧
    (s.state ∈ [EngineState.flush, .tx, .waitAck, .settle] →
      ∃ (d : Draw) (t : State), drawFits s.state d = true ∧ step s = engineStep d (countDraw s) ∧
        step s = .next t ∧ t.state ≠ s.state)

/-- ERROR is left only by `CLEAR`, `SRESET` or the reset input, and until then its record stands: no second error
overwrites the first (R141, R142). -/
def Obligations.ErrorStandsUntilCleared : Prop :=
  ∀ s t : State, s.state = .error → step s = .next t →
    (t.state = .error ∧ t.errCode = s.errCode ∧ t.errInfo = s.errInfo ∧ t.xphase = s.xphase) ∨
    (∃ off w rest, s.env.inputs = .hostWrite off w :: rest ∧ off &&& ~~~3 = 0x004 ∧
      (w = 0x0000003E ∨ w = 0x0000003F)) ∨
    (∃ rest, s.env.inputs = .resetInput :: rest)

/-! ### The decoder -/

/-- `DECODE` in IDLE, WAIT_CHUNK and ERROR changes the decoder registers and the tracker and nothing else, and what it
writes there depends on nothing but `RXF[0:RXF_LEN]`, `RXF_LEN`, `CTRL.TAILOFF` and the tracker: two states that agree on
these get the same verdict (R125). -/
def Obligations.DecodeReadsAndWritesOnlyTheDecoder : Prop :=
  ∀ s s' : State, s.state ∈ [EngineState.idle, .waitChunk, .error] → s'.state ∈ [EngineState.idle, .waitChunk, .error] →
    s'.rxfLen = s.rxfLen → s'.ctrl.tailOff = s.ctrl.tailOff → s'.tracker = s.tracker →
    (∀ k, k < s.rxfLen.toNat → rxfByte s' k = rxfByte s k) →
    ∃ (r : RxRegs) (k : Tracker),
      exec .decode s = .next { s with rx := r, tracker := k } ∧ exec .decode s' = .next { s' with rx := r, tracker := k }

/-- The first verdicts of R124: BAD_LENGTH over 1029 bytes with `RX_TYPE` NONE, NO_DELIMITER, and BAD_LENGTH for a
recognised shape of the wrong length; all other fields zero and the tracker unchanged. -/
def Obligations.DecodeRejectsBadDelimitersAndLengths : Prop :=
  ∀ s : State, s.state ∈ [EngineState.idle, .waitChunk, .error] →
    (1029 < s.rxfLen.toNat →
      exec .decode s = .next { s with rx := { RxRegs.zero with code := .badLength } }) ∧
    (s.rxfLen.toNat ≤ 1029 → ¬ headDelimited s →
      (s.rxfLen.toNat = 0 ∨ (rxfByte s 0 ≠ 0xDA ∧ rxfByte s 0 ≠ 0xED)) →
      exec .decode s = .next { s with rx := { RxRegs.zero with code := .noDelimiter } }) ∧
    (s.rxfLen.toNat ≤ 1029 → headDelimited s → s.rxfLen.toNat ≠ 14 →
      exec .decode s = .next { s with rx := { RxRegs.zero with kind := .head, code := .badLength } }) ∧
    (1 ≤ s.rxfLen.toNat → s.rxfLen.toNat < 5 → rxfByte s 0 = 0xDA →
      exec .decode s = .next { s with rx := { RxRegs.zero with kind := .data, code := .badLength } }) ∧
    (1 ≤ s.rxfLen.toNat → s.rxfLen.toNat ≤ 1029 → s.rxfLen.toNat ≠ 5 → rxfByte s 0 = 0xED →
      exec .decode s = .next { s with rx := { RxRegs.zero with kind := .tail, code := .badLength } })

/-- A frame of a right shape with a wrong CRC is BAD_CRC; with the right CRC and a wrong complement byte it is
BAD_COMPLEMENT; both report the received and the computed CRC, and leave the tracker alone (R118, R119, R124). -/
def Obligations.DecodeRejectsBadCrcAndComplement : Prop :=
  ∀ (s : State) (k : RxType), s.state ∈ [EngineState.idle, .waitChunk, .error] → shaped s k →
    (rxfTrailer s ≠ rxfCrc s →
      exec .decode s = .next { s with rx := { RxRegs.zero with
        kind := k, code := .badCrc, recvCrc := rxfTrailer s, calcCrc := rxfCrc s } }) ∧
    (rxfTrailer s = rxfCrc s → k ≠ .head → rxfByte s 2 ≠ ~~~(rxfByte s 1) →
      exec .decode s = .next { s with rx := { RxRegs.zero with
        kind := k, code := .badComplement, recvCrc := rxfTrailer s, calcCrc := rxfCrc s } })

/-- `DECODE` of the head frame the encoder builds reports OK with its length and address and restarts the tracker
(R121). -/
def Obligations.DecodeAcceptsTheHeadFrameBuilt : Prop :=
  ∀ (s : State) (p : List Byte) (len addr : Word), s.state ∈ [EngineState.idle, .waitChunk, .error] →
    p = [0xFE, 0x00, 0xFF, 0x01] ++ be32 len ++ be32 addr → s.rxfLen = 14 →
    (List.range 14).map (rxfByte s) = p ++ be16 (crc16 p) →
    exec .decode s = .next { s with
      rx := { RxRegs.zero with
        kind := .head, code := .ok, recvCrc := crc16 p, calcCrc := crc16 p, len := len, addr := addr }
      tracker := { exp := 1, inXfer := true, cnt := 0 } }

/-- `DECODE` of a data frame the encoder builds reports its seq and chunk length: OK, and the tracker advances, when a
transfer is open and the seq is the expected one, else SEQ_ERR with the tracker unchanged (R122). -/
def Obligations.DecodeTracksTheDataFrameBuilt : Prop :=
  ∀ (s : State) (p chunk : List Byte) (n : Byte), s.state ∈ [EngineState.idle, .waitChunk, .error] →
    p = [0xDA, n, ~~~n] ++ chunk → chunk.length ≤ 1024 → s.rxfLen.toNat = chunk.length + 5 →
    (List.range (chunk.length + 5)).map (rxfByte s) = p ++ be16 (crc16 p) →
    exec .decode s = .next { s with
      rx := { RxRegs.zero with
        kind := .data
        code := if s.tracker.inXfer = true ∧ n = s.tracker.exp then .ok else .seqErr
        n := n
        chunkLen := BitVec.ofNat 11 chunk.length
        recvCrc := crc16 p
        calcCrc := crc16 p }
      tracker := if s.tracker.inXfer = true ∧ n = s.tracker.exp
        then { s.tracker with exp := s.tracker.exp + 1, cnt := s.tracker.cnt + 1 } else s.tracker }

/-- `DECODE` of a tail frame the encoder builds: OK, closing the transfer, when a transfer is open and the count is
`(RX_CNT + CTRL.TAILOFF) mod 256`, else SEQ_ERR with the tracker unchanged (R123). -/
def Obligations.DecodeTracksTheTailFrameBuilt : Prop :=
  ∀ (s : State) (p : List Byte) (n : Byte), s.state ∈ [EngineState.idle, .waitChunk, .error] →
    p = [0xED, n, ~~~n] → s.rxfLen = 5 →
    (List.range 5).map (rxfByte s) = p ++ be16 (crc16 p) →
    exec .decode s = .next { s with
      rx := { RxRegs.zero with
        kind := .tail
        code := if s.tracker.inXfer = true ∧
            n = s.tracker.cnt.setWidth 8 + (if s.ctrl.tailOff then 1 else 0) then .ok else .seqErr
        n := n
        recvCrc := crc16 p
        calcCrc := crc16 p }
      tracker := if s.tracker.inXfer = true ∧ n = s.tracker.cnt.setWidth 8 + (if s.ctrl.tailOff then 1 else 0)
        then { s.tracker with inXfer := false } else s.tracker }

/-- A frame that `DECODE` accepts, with any one of its bytes changed, is not accepted (a property the spec marks as derived
from R115 to R123). -/
def Obligations.DecodeRejectsOneByteChange : Prop :=
  ∀ (s t t' : State) (j : Nat) (b : Byte), s.state ∈ [EngineState.idle, .waitChunk, .error] →
    j < s.rxfLen.toNat → b ≠ rxfByte s j →
    exec .decode s = .next t → exec .decode { s with mem := s.mem.write (0x800 + j) [b] } = .next t' →
    t.rx.code = .ok → t'.rx.code ≠ .ok

/-! ### The host window -/

/-- What a host read of `STATUS` shows, bit by bit: `BUSY`, `DONE`, `ERR`, `OVR`, `RXV`, `XACT`, `IRQ` with the formula
of R36, the fields STATE, ERRCODE, CLASS and XPHASE with the numbers of R15, R137, R17 and R16, and reserved bits 0 (R28,
R36, R133). -/
def Obligations.StatusReadShowsTheFlags : Prop :=
  ∀ s : State, ∃ w : Word, w = hostLoad 0x008 s ∧
    w.getLsbD 0 = decide (s.state ∈ [EngineState.flush, .tx, .waitAck, .settle]) ∧
    w.getLsbD 1 = s.done ∧ w.getLsbD 2 = decide (s.state = .error) ∧ w.getLsbD 3 = s.ovr ∧
    w.getLsbD 4 = s.rxv ∧ w.getLsbD 5 = decide (s.xphase ≠ .none) ∧
    w.getLsbD 6 = ((s.done && s.ctrl.ieDone) || (decide (s.state = .error) && s.ctrl.ieErr)) ∧
    w.getLsbD 7 = false ∧
    w.extractLsb' 8 4 = (match s.state with
      | .idle => 0 | .flush => 1 | .tx => 2 | .waitAck => 3 | .settle => 4 | .waitChunk => 5 | .error => 6) ∧
    w.extractLsb' 12 4 = (match s.errCode with
      | .none => 0 | .protocolViolation => 1 | .transportIo => 2 | .ackTimeout => 3 | .chunkLen => 4
      | .illegalCmd => 5) ∧
    w.extractLsb' 16 8 = s.lastRx ∧
    w.extractLsb' 24 2 = (match s.cls with | .head => 0 | .data => 1 | .tail => 2 | .raw => 3) ∧
    w.extractLsb' 26 2 = (match s.xphase with | .none => 0 | .head => 1 | .data => 2 | .tail => 3) ∧
    w.extractLsb' 28 4 = 0

/-- What a host reads from every register after reset (R14), for every value of the reset parameters (R151): `CTRL`
shows `TAILOFF` and `SDOK`, `SETTLE` shows `settle_ms`. `CUR_OP` is zero (R152), and
`PROGRESS` is empty (R38, log 7). -/
def Obligations.ResetRegistersReadTheirValues : Prop :=
  ∀ p : Params,
    hostLoad 0x000 (State.resetWith p) =
      (BitVec.ofBool p.tailOffsetReset).setWidth 32 ||| (BitVec.ofBool p.sdokReset).setWidth 32 <<< 1 ∧
    (∀ off : Offset, off ∈ ([0x004, 0x008, 0x00C, 0x010, 0x014, 0x018, 0x020, 0x024, 0x028, 0x02C, 0x030, 0x034,
      0x04C, 0x050, 0x058, 0x05C, 0x060, 0x068, 0x06C] : List Offset) → hostLoad off (State.resetWith p) = 0) ∧
    hostLoad 0x01C (State.resetWith p) = 1 ∧
    hostLoad 0x038 (State.resetWith p) = 90 ∧ hostLoad 0x03C (State.resetWith p) = 450 ∧
    hostLoad 0x040 (State.resetWith p) = 10 ∧ hostLoad 0x044 (State.resetWith p) = 1000 ∧
    hostLoad 0x048 (State.resetWith p) = p.settleMs.setWidth 32 ∧
    hostLoad 0x054 (State.resetWith p) = 0x000000F0 ∧ hostLoad 0x064 (State.resetWith p) = 0x00000001 ∧
    (∀ a : Nat, (State.resetWith p).mem.read a = 0x00) ∧
    (State.resetWith p).curOp = 0x00 ∧ (State.resetWith p).progress = []

/-- A host write to an RW register stores its defined bits, and a read gives them back (R14, R48, R132). -/
def Obligations.RegisterWriteReadsBackDefinedBits : Prop :=
  ∀ (s : State) (v : Word),
    hostLoad 0x000 (hostStore 0x000 v s) = v &&& 0x0000000F ∧
    (∀ off : Offset, off ∈ ([0x010, 0x014] : List Offset) → hostLoad off (hostStore off v s) = v) ∧
    (∀ off : Offset, off ∈ ([0x018, 0x050] : List Offset) → hostLoad off (hostStore off v s) = v &&& 0x000007FF) ∧
    (∀ off : Offset, off ∈ ([0x038, 0x03C, 0x040, 0x044, 0x048] : List Offset) →
      hostLoad off (hostStore off v s) = v &&& 0x0000FFFF)

/-- A host write to a read only register, to `TXF` or to a reserved word is ignored (R42, R48). -/
def Obligations.ReadOnlyAndReservedWritesAreIgnored : Prop :=
  ∀ (s : State) (off : Offset) (v : Word) (rest : List Event),
    s.env.inputs = .hostWrite off v :: rest → ignoresWrites (off &&& ~~~3).toNat = true →
    step s = .next (s.withInputs rest)

/-- A host write outside `CMD` never disturbs the operation in progress: STATE, the frame in `TXF` and every engine
register keep their values; `DONE` and `OVR` change only by a write of 1 to their bit of `STATUS`; each RW register
changes only by a write to its own word; a write to a register or reserved word below `CHUNK` leaves memory as it was;
and no byte outside `CHUNK` and `RXF`, and none outside the word written, ever changes (R49, R55, R132). -/
def Obligations.HostWriteLeavesTheEngineAlone : Prop :=
  ∀ (s : State) (off : Offset) (v : Word) (rest : List Event),
    s.env.inputs = .hostWrite off v :: rest → off &&& ~~~3 ≠ 0x004 →
    ∃ (a : Offset) (t : State), a = off &&& ~~~3 ∧ step s = .next t ∧ t.txFrame = s.txFrame ∧
      t = { s.withInputs rest with
        ctrl := t.ctrl, done := t.done, ovr := t.ovr, len := t.len, addr := t.addr, chunkLen := t.chunkLen,
        timeouts := t.timeouts, rxfLen := t.rxfLen, mem := t.mem } ∧
      t.done = (if a = 0x008 then s.done && !v.getLsbD 1 else s.done) ∧
      t.ovr = (if a = 0x008 then s.ovr && !v.getLsbD 3 else s.ovr) ∧
      (a ≠ 0x000 → t.ctrl = s.ctrl) ∧ (a ≠ 0x010 → t.len = s.len) ∧ (a ≠ 0x014 → t.addr = s.addr) ∧
      (a ≠ 0x018 → t.chunkLen = s.chunkLen) ∧ (a ≠ 0x038 → t.timeouts.head = s.timeouts.head) ∧
      (a ≠ 0x03C → t.timeouts.data = s.timeouts.data) ∧ (a ≠ 0x040 → t.timeouts.tail = s.timeouts.tail) ∧
      (a ≠ 0x044 → t.timeouts.raw = s.timeouts.raw) ∧ (a ≠ 0x048 → t.timeouts.settle = s.timeouts.settle) ∧
      (a ≠ 0x050 → t.rxfLen = s.rxfLen) ∧
      (a.toNat < chunkRegion.base → t.mem = s.mem) ∧
      (∀ x, chunkRegion.contains x = false → rxfRegion.contains x = false → t.mem.read x = s.mem.read x) ∧
      ∀ x, (x < a.toNat ∨ a.toNat + 4 ≤ x) → t.mem.read x = s.mem.read x

/-- A word written to `CHUNK` or `RXF` is stored little-endian: its byte `j` is buffer byte `4 * i + j`; the last word of
`RXF`, at 0xC04, holds byte 1028 in bits 7:0 only; no other byte of memory changes, and the word reads back. A read of a
word of `CHUNK`, `RXF` or `TXF` shows the bytes it covers in the same order, bits 31:8 of the last word of `RXF` and `TXF`
zero (R42, R43, R45). That buffer bytes stand in one memory at their window offsets is log 11. -/
def Obligations.BufferWordsArePackedLittleEndian : Prop :=
  ∀ (s : State) (v : Word) (i : Nat),
    (i < 256 → ∃ t, hostStore (BitVec.ofNat 13 (0x400 + 4 * i)) v s = t ∧
      t = { s with mem := t.mem } ∧
      (∀ j, j < 4 → t.mem.read (0x400 + 4 * i + j) = v.extractLsb' (8 * j) 8) ∧
      (∀ a, (a < 0x400 + 4 * i ∨ 0x400 + 4 * i + 4 ≤ a) → t.mem.read a = s.mem.read a) ∧
      hostLoad (BitVec.ofNat 13 (0x400 + 4 * i)) t = v) ∧
    (i < 258 → ∃ t, hostStore (BitVec.ofNat 13 (0x800 + 4 * i)) v s = t ∧
      t = { s with mem := t.mem } ∧
      (∀ j, j < (if i = 257 then 1 else 4) → t.mem.read (0x800 + 4 * i + j) = v.extractLsb' (8 * j) 8) ∧
      (∀ a, (a < 0x800 + 4 * i ∨ 0x800 + 4 * i + (if i = 257 then 1 else 4) ≤ a) →
        t.mem.read a = s.mem.read a) ∧
      hostLoad (BitVec.ofNat 13 (0x800 + 4 * i)) t = (if i = 257 then v &&& 0x000000FF else v)) ∧
    (i < 256 → ∀ j, j < 4 →
      (hostLoad (BitVec.ofNat 13 (0x400 + 4 * i)) s).extractLsb' (8 * j) 8 = s.mem.read (0x400 + 4 * i + j)) ∧
    (i < 258 → ∀ j, j < 4 →
      (hostLoad (BitVec.ofNat 13 (0x800 + 4 * i)) s).extractLsb' (8 * j) 8 =
        (if i = 257 ∧ j ≠ 0 then 0x00 else s.mem.read (0x800 + 4 * i + j)) ∧
      (hostLoad (BitVec.ofNat 13 (0x1000 + 4 * i)) s).extractLsb' (8 * j) 8 =
        (if i = 257 ∧ j ≠ 0 then 0x00 else s.mem.read (0x1000 + 4 * i + j)))

/-- No host access faults, and bits 1:0 of an offset do not matter to a read or to a write (R47). A write outside `CMD`
is the store of its word and nothing else (R132). A read outputs its word and changes nothing of the block (R49, R133);
that the word is recorded is the model's choice (log 9). A read of `CMD` or of a reserved word is 0 in every state
(R48). -/
def Obligations.HostAccessesNeverFaultAndIgnoreLowOffsetBits : Prop :=
  ∀ (s : State) (off : Offset) (v : Word) (rest : List Event),
    (s.env.inputs = .hostRead off :: rest →
      step s = .next { s with env := { s.env with inputs := rest, reads := s.env.reads ++ [hostLoad off s] } }) ∧
    (s.env.inputs = .hostWrite off v :: rest → ∃ t, step s = .next t) ∧
    (s.env.inputs = .hostWrite off v :: rest → off &&& ~~~3 ≠ 0x004 →
      step s = .next (hostStore off v (s.withInputs rest))) ∧
    hostLoad off s = hostLoad (off &&& ~~~3) s ∧
    onHostWrite off v s = onHostWrite (off &&& ~~~3) v s ∧
    (readsZero (off &&& ~~~3).toNat = true → hostLoad off s = 0)

/-! ### Control -/

/-- `NOP` changes nothing; `CLEAR` in IDLE and ERROR returns to IDLE with `ERRCODE`, `ERRINFO` and XPHASE zero and keeps
all else; `SRESET` in every state, and the reset input, give every register, buffer byte and internal register the value
of R152 and leave the link and the host alone (R129, R130, R131, R150, R152, R153). That a
reset empties `PROGRESS` and keeps the agents' records is log 7, that it reads its parameters from `params` is log 6,
that it sets the model's held timeout as `State.resetWith` has it is log 15, and that the reset input is an event is log
4. -/
def Obligations.ControlCommandsDoAsStated : Prop :=
  ∀ (s : State) (rest : List Event),
    (s.state ∈ [EngineState.idle, .waitChunk, .error] → exec .nop s = .next s) ∧
    (s.state ∈ [EngineState.idle, .error] →
      exec .clear s = .next { s with
        state := .idle, errCode := .none, errInfo := { exp := 0, rx := 0, cls := 0, op := 0 }, xphase := .none }) ∧
    exec .sreset s = .next { State.resetWith s.params with env := s.env } ∧
    (s.env.inputs = .resetInput :: rest →
      step s = .next { State.resetWith s.params with env := { s.env with inputs := rest } })

/-- `CLEAR` in IDLE changes nothing, since `ERRCODE`, `ERRINFO` and XPHASE are already zero there (R130), in every state
that has the invariant of R40. -/
def Obligations.ClearInIdleChangesNothing : Prop :=
  ∀ s : State, ControlInv s → s.state = .idle → exec .clear s = .next s

/-- Two memories in canonical form that read alike everywhere are equal, and a write to a memory in canonical form gives
one (the form is the model's choice, log 11; the bytes are those of R43). -/
def Obligations.CanonicalMemoryIsDeterminedByItsReads : Prop :=
  ∀ (m m' : Memory) (base : Nat) (bs : List Byte), m.wf → m'.wf →
    ((∀ a, m.read a = m'.read a) → m = m') ∧ (m.write base bs).wf

/-! ### Reading the registers -/

/-- What a host reads from every register but `STATUS`, in every state: the value of the register, each field of
`ERRINFO`, `RX_INFO`, `RX_CRC` and `RX_TRACK` in its place with the numbers of R17 and R33, and reserved bits 0 (R14, R33,
R34, R35, R133). -/
def Obligations.RegisterReadsShowTheirFields : Prop :=
  ∀ s : State, ∃ ctrl err info crc track : Word,
    (ctrl = hostLoad 0x000 s ∧ ctrl.getLsbD 0 = s.ctrl.tailOff ∧ ctrl.getLsbD 1 = s.ctrl.sdOk ∧
      ctrl.getLsbD 2 = s.ctrl.ieDone ∧ ctrl.getLsbD 3 = s.ctrl.ieErr ∧ ctrl.extractLsb' 4 28 = 0) ∧
    (err = hostLoad 0x06C s ∧ err.extractLsb' 0 8 = s.errInfo.exp ∧ err.extractLsb' 8 8 = s.errInfo.rx ∧
      err.extractLsb' 16 2 = s.errInfo.cls ∧ err.extractLsb' 18 6 = 0 ∧ err.extractLsb' 24 8 = s.errInfo.op ∧
      s.cls.code = (match s.cls with | .head => 0 | .data => 1 | .tail => 2 | .raw => 3)) ∧
    (info = hostLoad 0x054 s ∧
      info.extractLsb' 0 2 = (match s.rx.kind with | .none => 0 | .head => 1 | .data => 2 | .tail => 3) ∧
      info.extractLsb' 2 2 = 0 ∧
      info.extractLsb' 4 4 = (match s.rx.code with
        | .ok => 0 | .noDelimiter => 1 | .badLength => 2 | .badCrc => 3 | .badComplement => 4 | .seqErr => 5
        | .notDecoded => 15) ∧
      info.extractLsb' 8 8 = s.rx.n ∧ info.extractLsb' 16 11 = s.rx.chunkLen ∧ info.extractLsb' 27 5 = 0) ∧
    (crc = hostLoad 0x058 s ∧ crc.extractLsb' 0 16 = s.rx.recvCrc ∧ crc.extractLsb' 16 16 = s.rx.calcCrc) ∧
    (track = hostLoad 0x064 s ∧ track.extractLsb' 0 8 = s.tracker.exp ∧ track.getLsbD 8 = s.tracker.inXfer ∧
      track.extractLsb' 9 23 = 0) ∧
    (hostLoad 0x05C s = s.rx.len ∧ hostLoad 0x060 s = s.rx.addr ∧ hostLoad 0x068 s = s.tracker.cnt) ∧
    (hostLoad 0x00C s = s.acc.setWidth 32 ∧ hostLoad 0x010 s = s.len ∧ hostLoad 0x014 s = s.addr ∧
      hostLoad 0x018 s = s.chunkLen.setWidth 32 ∧ hostLoad 0x01C s = s.seq.setWidth 32 ∧ hostLoad 0x020 s = s.nsent ∧
      hostLoad 0x024 s = s.remain ∧ hostLoad 0x028 s = s.progSent ∧ hostLoad 0x02C s = s.progTotal ∧
      hostLoad 0x030 s = s.silentRun ∧ hostLoad 0x034 s = s.silentTotal) ∧
    (hostLoad 0x038 s = s.timeouts.head.setWidth 32 ∧ hostLoad 0x03C s = s.timeouts.data.setWidth 32 ∧
      hostLoad 0x040 s = s.timeouts.tail.setWidth 32 ∧ hostLoad 0x044 s = s.timeouts.raw.setWidth 32 ∧
      hostLoad 0x048 s = s.timeouts.settle.setWidth 32) ∧
    hostLoad 0x04C s = s.txfLen.setWidth 32 ∧ hostLoad 0x050 s = s.rxfLen.setWidth 32
end

