-- ==== Sys2Proof/Laws/Crc.lean ====
section
/-! SUPPORT. The CRC is linear: the generating turn, the table, the step and the flush distribute over exclusive or. -/

namespace Sys2Proof.Machine

theorem crcShift_xor (a b : Half) : crcShift (a ^^^ b) = crcShift a ^^^ crcShift b := by
  unfold crcShift
  rw [BitVec.getLsbD_xor, BitVec.shiftLeft_xor_distrib]
  have hcancel : ∀ x y p : Half, (x ^^^ p) ^^^ (y ^^^ p) = x ^^^ y := fun x y p => by
    rw [show (x ^^^ p) ^^^ (y ^^^ p) = (x ^^^ y) ^^^ (p ^^^ p) by ac_rfl, BitVec.xor_self, BitVec.xor_zero]
  cases a.getLsbD 15 <;> cases b.getLsbD 15
  · rfl
  · exact BitVec.xor_assoc _ _ _
  · show _ = (a <<< 1 ^^^ Config.crcPoly) ^^^ b <<< 1
    ac_rfl
  · exact (hcancel _ _ _).symm

theorem crcShift_iterate_xor (k : Nat) (a b : Half) : crcShift^[k] (a ^^^ b) = crcShift^[k] a ^^^ crcShift^[k] b := by
  induction k generalizing a b with
  | zero => rfl
  | succ k ih => rw [Function.iterate_succ_apply, Function.iterate_succ_apply, Function.iterate_succ_apply, crcShift_xor, ih]

/-- The table is linear. -/
theorem crcTable_xor (x y : Byte) : crcTable (x ^^^ y) = crcTable x ^^^ crcTable y := by
  unfold crcTable
  rw [BitVec.setWidth_xor, BitVec.shiftLeft_xor_distrib, crcShift_iterate_xor]

@[simp] theorem crcTable_zero : crcTable 0#8 = 0#16 := by decide

/-- The shifted accumulator and the byte occupy different bits, so the step is an exclusive or of three words. -/
theorem crcStep_eq (a : Half) (b : Byte) :
    crcStep a b = (a <<< 8) ^^^ b.setWidth 16 ^^^ crcTable (a.extractLsb' 8 8) := by
  unfold crcStep
  congr 1
  ext i hi
  simp only [BitVec.getElem_or, BitVec.getElem_xor, BitVec.getElem_shiftLeft, BitVec.getElem_setWidth]
  by_cases h : i < 8
  · simp [h]
  · have : b.getLsbD i = false := BitVec.getLsbD_of_ge _ _ (by omega)
    simp [this]

/-- The step is linear. -/
theorem crcStep_xor (a a' : Half) (b b' : Byte) :
    crcStep (a ^^^ a') (b ^^^ b') = crcStep a b ^^^ crcStep a' b' := by
  have he : (a ^^^ a').extractLsb' 8 8 = a.extractLsb' 8 8 ^^^ a'.extractLsb' 8 8 := by
    ext i hi; simp
  simp only [crcStep_eq, BitVec.shiftLeft_xor_distrib, BitVec.setWidth_xor, he, crcTable_xor]
  ac_rfl

/-- The flush is linear. -/
theorem crcFlush_xor (a b : Half) : crcFlush (a ^^^ b) = crcFlush a ^^^ crcFlush b := by
  unfold crcFlush
  have h : ∀ x y : Half, crcStep (x ^^^ y) 0x00 = crcStep x 0x00 ^^^ crcStep y 0x00 := fun x y => by
    simpa using crcStep_xor x y 0x00 0x00
  rw [h, h]

end Sys2Proof.Machine
end

