-- ==== Sys2Proof/Laws/Memory.lean ====
section
/-! SUPPORT. Memory: reading after writing, the canonical form, and that canonical memories that read alike are equal. -/

namespace Sys2Proof.Machine

theorem contains_iff (r : Region) (a : Nat) : r.contains a = true ↔ r.base ≤ a ∧ a < r.base + r.size := by
  simp [Region.contains]

theorem inBuffer_iff (a : Nat) : inBuffer a = true ↔
    (0x400 ≤ a ∧ a < 0x800) ∨ (0x800 ≤ a ∧ a < 0xC05) ∨ (0x1000 ≤ a ∧ a < 0x1405) := by
  unfold inBuffer
  rw [Bool.or_eq_true, Bool.or_eq_true, contains_iff, contains_iff, contains_iff]
  simp only [chunkRegion, rxfRegion, txfRegion]
  omega

theorem lookupCell_append (cs ds : List Host.Cell) (a : Nat) (h : ∀ c ∈ cs, c.1 ≠ a) :
    lookupCell (cs ++ ds) a = lookupCell ds a := by
  induction cs with
  | nil => rfl
  | cons c cs ih =>
    have hc := h c (by simp)
    simp [lookupCell, hc, ih fun d hd => h d (by simp [hd])]

theorem lookupCell_append_of_missing (cs ds : List Host.Cell) (a : Nat) (h : ∀ d ∈ ds, d.1 ≠ a) :
    lookupCell (cs ++ ds) a = lookupCell cs a := by
  induction cs with
  | nil =>
    have := lookupCell_append ds [] a h
    simpa [lookupCell] using this
  | cons c cs ih => simp [lookupCell, ih]

theorem lookupCell_of_missing (cs : List Host.Cell) (a : Nat) (h : ∀ c ∈ cs, c.1 ≠ a) :
    lookupCell cs a = Memory.unlisted := by
  simpa [lookupCell] using lookupCell_append cs [] a h

theorem lookupCell_filter (cs : List Host.Cell) (p : Nat → Bool) (a : Nat) (h : p a = true) :
    lookupCell (cs.filter fun c => p c.1) a = lookupCell cs a := by
  induction cs with
  | nil => rfl
  | cons c cs ih =>
    by_cases hc : c.1 = a
    · simp [hc, h, lookupCell]
    · by_cases hp : p c.1 = true <;> simp [hp, lookupCell, hc, ih]

theorem mem_cellsOf {base : Nat} {bs : List Byte} {c : Host.Cell} (h : c ∈ cellsOf base bs) :
    base ≤ c.1 ∧ c.1 < base + bs.length ∧ c.2 ≠ Memory.unlisted := by
  induction bs generalizing base with
  | nil => simp [cellsOf] at h
  | cons b bs ih =>
    simp only [cellsOf] at h
    split at h
    · have := ih h
      exact ⟨by omega, by simp only [List.length_cons]; omega, this.2.2⟩
    · rename_i hb
      rcases List.mem_cons.1 h with rfl | h
      · simp [hb]
      · have := ih h
        exact ⟨by omega, by simp only [List.length_cons]; omega, this.2.2⟩

theorem lookupCell_cellsOf (base : Nat) (bs : List Byte) (k : Nat) (h : k < bs.length) :
    lookupCell (cellsOf base bs) (base + k) = bs[k] := by
  induction bs generalizing base k with
  | nil => simp at h
  | cons b bs ih =>
    simp only [cellsOf]
    cases k with
    | zero =>
      split
      · rename_i hb
        rw [lookupCell_of_missing]
        · simp [hb]
        · intro c hc
          have := (mem_cellsOf hc).1
          omega
      · simp [lookupCell]
    | succ k =>
      have hk : k < bs.length := by simpa using h
      have := ih (base + 1) k hk
      rw [show base + (k + 1) = base + 1 + k by omega]
      split
      · simpa using this
      · simp [lookupCell, show base ≠ base + 1 + k by omega, this]

/-- A byte inside the range just written reads what was written. -/
theorem read_write_inside (m : Memory) (base k : Nat) (bs : List Byte) (h : k < bs.length) :
    (m.write base bs).read (base + k) = bs[k] := by
  unfold Memory.write Memory.read
  rw [List.append_assoc, lookupCell_append, lookupCell_append_of_missing, lookupCell_cellsOf _ _ _ h]
  · intro c hc
    have := (List.mem_filter.1 hc).2
    simp only [decide_eq_true_eq] at this
    omega
  · intro c hc
    have := (List.mem_filter.1 hc).2
    simp only [decide_eq_true_eq] at this
    omega

/-- A byte outside the range just written reads as before. -/
theorem read_write_outside (m : Memory) (base a : Nat) (bs : List Byte)
    (h : a < base ∨ base + bs.length ≤ a) : (m.write base bs).read a = m.read a := by
  unfold Memory.write Memory.read
  have hmid : ∀ c ∈ cellsOf base bs, c.1 ≠ a := fun c hc => by
    have := mem_cellsOf hc
    omega
  rcases h with h | h
  · rw [lookupCell_append_of_missing, lookupCell_append_of_missing _ _ _ hmid,
      lookupCell_filter _ (fun x => decide (x < base)) a (by simpa using h)]
    intro c hc
    have := (List.mem_filter.1 hc).2
    simp only [decide_eq_true_eq] at this
    omega
  · rw [List.append_assoc, lookupCell_append, lookupCell_append _ _ _ hmid,
      lookupCell_filter _ (fun x => decide (base + bs.length ≤ x)) a (by simpa using h)]
    intro c hc
    have := (List.mem_filter.1 hc).2
    simp only [decide_eq_true_eq] at this
    omega

@[simp] theorem length_bytes (m : Memory) (base n : Nat) : (m.bytes base n).length = n := by
  simp [Memory.bytes]

theorem getElem_bytes (m : Memory) (base n k : Nat) (h : k < (m.bytes base n).length) :
    (m.bytes base n)[k] = m.read (base + k) := by
  simp [Memory.bytes]

/-- The range just written reads back whole. -/
theorem bytes_write_same (m : Memory) (base : Nat) (bs : List Byte) :
    (m.write base bs).bytes base bs.length = bs := by
  apply List.ext_getElem (by simp)
  intro k h1 h2
  rw [getElem_bytes, read_write_inside _ _ _ _ h2]

/-- Two memories that read alike on a range give the same bytes. -/
theorem bytes_congr {m m' : Memory} {base n : Nat} (h : ∀ k, k < n → m.read (base + k) = m'.read (base + k)) :
    m.bytes base n = m'.bytes base n := by
  apply List.ext_getElem (by simp)
  intro k h1 h2
  rw [getElem_bytes, getElem_bytes]
  exact h k (by simpa using h1)

/-- A range apart from the one written reads as before. -/
theorem bytes_write_apart (m : Memory) (base n base' : Nat) (bs : List Byte)
    (h : base + n ≤ base' ∨ base' + bs.length ≤ base) :
    (m.write base' bs).bytes base n = m.bytes base n :=
  bytes_congr fun k hk => read_write_outside _ _ _ _ (by omega)

theorem cellsOf_pairwise (base : Nat) (bs : List Byte) :
    (cellsOf base bs).Pairwise (fun c d => c.1 < d.1) := by
  induction bs generalizing base with
  | nil => simp [cellsOf]
  | cons b bs ih =>
    simp only [cellsOf]
    split
    · exact ih _
    · refine List.pairwise_cons.2 ⟨fun c hc => ?_, ih _⟩
      have := (mem_cellsOf hc).1
      simp only; omega

/-- Every write keeps the canonical form. -/
theorem wf_write (m : Memory) (base : Nat) (bs : List Byte) (h : m.wf) : (m.write base bs).wf := by
  obtain ⟨hs, hz⟩ := h
  have hlow : ∀ c ∈ m.cells.filter (fun c => decide (c.1 < base)), c.1 < base := fun c hc => by
    simpa using (List.mem_filter.1 hc).2
  have hhigh : ∀ c ∈ m.cells.filter (fun c => decide (base + bs.length ≤ c.1)), base + bs.length ≤ c.1 :=
    fun c hc => by simpa using (List.mem_filter.1 hc).2
  refine ⟨?_, ?_⟩
  · refine List.pairwise_append.2 ⟨List.pairwise_append.2 ⟨hs.filter _, cellsOf_pairwise _ _, ?_⟩, hs.filter _, ?_⟩
    · intro c hc d hd
      have h1 := hlow c hc
      have h2 := mem_cellsOf hd
      omega
    · intro c hc d hd
      have h2 := hhigh d hd
      rcases List.mem_append.1 hc with hc | hc
      · have h1 := hlow c hc
        omega
      · have h1 := mem_cellsOf hc
        omega
  · intro c hc
    rcases List.mem_append.1 hc with hc | hc
    · rcases List.mem_append.1 hc with hc | hc
      · exact hz c (List.mem_filter.1 hc).1
      · exact (mem_cellsOf hc).2.2
    · exact hz c (List.mem_filter.1 hc).1

/-- A cell of a written memory is an old one or lies in the range written. -/
theorem mem_cells_write {m : Memory} {base : Nat} {bs : List Byte} {c : Host.Cell}
    (h : c ∈ (m.write base bs).cells) : c ∈ m.cells ∨ (base ≤ c.1 ∧ c.1 < base + bs.length) := by
  simp only [Memory.write, List.mem_append, List.mem_filter] at h
  rcases h with (h | h) | h
  · exact .inl h.1
  · exact .inr ⟨(mem_cellsOf h).1, (mem_cellsOf h).2.1⟩
  · exact .inl h.1

theorem wf_empty : ({ cells := [] } : Memory).wf := by simp [Memory.wf]

@[simp] theorem read_empty (a : Nat) : ({ cells := [] } : Memory).read a = 0x00 := rfl

theorem lookupCell_of_mem {cs : List Host.Cell} (hs : cs.Pairwise (fun c d => c.1 < d.1)) {c : Host.Cell}
    (h : c ∈ cs) : lookupCell cs c.1 = c.2 := by
  induction cs with
  | nil => simp at h
  | cons d ds ih =>
    obtain ⟨hd, hs⟩ := List.pairwise_cons.1 hs
    rcases List.mem_cons.1 h with rfl | h
    · simp [lookupCell]
    · have := hd c h
      simp [lookupCell, show d.1 ≠ c.1 by omega, ih hs h]

end Sys2Proof.Machine
end

