-- ==== Sys2Proof/Laws/State.lean ====
section
/-! SUPPORT. One lemma per field per update of State, each true by rfl: what every shared update writes and what it
leaves. Later proofs rewrite with these and unfold no update. -/

namespace Sys2Proof.Machine

section setOvrFields
variable (s : State)

@[simp] theorem setOvr_ctrl : (setOvr s).ctrl = s.ctrl := rfl
@[simp] theorem setOvr_state : (setOvr s).state = s.state := rfl
@[simp] theorem setOvr_xphase : (setOvr s).xphase = s.xphase := rfl
@[simp] theorem setOvr_cls : (setOvr s).cls = s.cls := rfl
@[simp] theorem setOvr_done : (setOvr s).done = s.done := rfl
@[simp] theorem setOvr_ovr : (setOvr s).ovr = true := rfl
@[simp] theorem setOvr_rxv : (setOvr s).rxv = s.rxv := rfl
@[simp] theorem setOvr_lastRx : (setOvr s).lastRx = s.lastRx := rfl
@[simp] theorem setOvr_errCode : (setOvr s).errCode = s.errCode := rfl
@[simp] theorem setOvr_errInfo : (setOvr s).errInfo = s.errInfo := rfl
@[simp] theorem setOvr_curOp : (setOvr s).curOp = s.curOp := rfl
@[simp] theorem setOvr_acc : (setOvr s).acc = s.acc := rfl
@[simp] theorem setOvr_len : (setOvr s).len = s.len := rfl
@[simp] theorem setOvr_addr : (setOvr s).addr = s.addr := rfl
@[simp] theorem setOvr_chunkLen : (setOvr s).chunkLen = s.chunkLen := rfl
@[simp] theorem setOvr_seq : (setOvr s).seq = s.seq := rfl
@[simp] theorem setOvr_nsent : (setOvr s).nsent = s.nsent := rfl
@[simp] theorem setOvr_remain : (setOvr s).remain = s.remain := rfl
@[simp] theorem setOvr_progSent : (setOvr s).progSent = s.progSent := rfl
@[simp] theorem setOvr_progTotal : (setOvr s).progTotal = s.progTotal := rfl
@[simp] theorem setOvr_silentRun : (setOvr s).silentRun = s.silentRun := rfl
@[simp] theorem setOvr_silentTotal : (setOvr s).silentTotal = s.silentTotal := rfl
@[simp] theorem setOvr_timeouts : (setOvr s).timeouts = s.timeouts := rfl
@[simp] theorem setOvr_startTimeout : (setOvr s).startTimeout = s.startTimeout := rfl
@[simp] theorem setOvr_txfLen : (setOvr s).txfLen = s.txfLen := rfl
@[simp] theorem setOvr_rxfLen : (setOvr s).rxfLen = s.rxfLen := rfl
@[simp] theorem setOvr_rx : (setOvr s).rx = s.rx := rfl
@[simp] theorem setOvr_tracker : (setOvr s).tracker = s.tracker := rfl
@[simp] theorem setOvr_mem : (setOvr s).mem = s.mem := rfl
@[simp] theorem setOvr_progress : (setOvr s).progress = s.progress := rfl
@[simp] theorem setOvr_params : (setOvr s).params = s.params := rfl
@[simp] theorem setOvr_env : (setOvr s).env = s.env := rfl

end setOvrFields

section raiseErrorFields
variable (c : ErrCode) (x r : Byte) (k : BitVec 2) (o : Byte) (s : State)

@[simp] theorem raiseError_ctrl : (raiseError c x r k o s).ctrl = s.ctrl := rfl
@[simp] theorem raiseError_state : (raiseError c x r k o s).state = .error := rfl
@[simp] theorem raiseError_xphase : (raiseError c x r k o s).xphase = s.xphase := rfl
@[simp] theorem raiseError_cls : (raiseError c x r k o s).cls = s.cls := rfl
@[simp] theorem raiseError_done : (raiseError c x r k o s).done = s.done := rfl
@[simp] theorem raiseError_ovr : (raiseError c x r k o s).ovr = s.ovr := rfl
@[simp] theorem raiseError_rxv : (raiseError c x r k o s).rxv = s.rxv := rfl
@[simp] theorem raiseError_lastRx : (raiseError c x r k o s).lastRx = s.lastRx := rfl
@[simp] theorem raiseError_errCode : (raiseError c x r k o s).errCode = c := rfl
@[simp] theorem raiseError_errInfo : (raiseError c x r k o s).errInfo = { exp := x, rx := r, cls := k, op := o } := rfl
@[simp] theorem raiseError_curOp : (raiseError c x r k o s).curOp = s.curOp := rfl
@[simp] theorem raiseError_acc : (raiseError c x r k o s).acc = s.acc := rfl
@[simp] theorem raiseError_len : (raiseError c x r k o s).len = s.len := rfl
@[simp] theorem raiseError_addr : (raiseError c x r k o s).addr = s.addr := rfl
@[simp] theorem raiseError_chunkLen : (raiseError c x r k o s).chunkLen = s.chunkLen := rfl
@[simp] theorem raiseError_seq : (raiseError c x r k o s).seq = s.seq := rfl
@[simp] theorem raiseError_nsent : (raiseError c x r k o s).nsent = s.nsent := rfl
@[simp] theorem raiseError_remain : (raiseError c x r k o s).remain = s.remain := rfl
@[simp] theorem raiseError_progSent : (raiseError c x r k o s).progSent = s.progSent := rfl
@[simp] theorem raiseError_progTotal : (raiseError c x r k o s).progTotal = s.progTotal := rfl
@[simp] theorem raiseError_silentRun : (raiseError c x r k o s).silentRun = s.silentRun := rfl
@[simp] theorem raiseError_silentTotal : (raiseError c x r k o s).silentTotal = s.silentTotal := rfl
@[simp] theorem raiseError_timeouts : (raiseError c x r k o s).timeouts = s.timeouts := rfl
@[simp] theorem raiseError_startTimeout : (raiseError c x r k o s).startTimeout = s.startTimeout := rfl
@[simp] theorem raiseError_txfLen : (raiseError c x r k o s).txfLen = s.txfLen := rfl
@[simp] theorem raiseError_rxfLen : (raiseError c x r k o s).rxfLen = s.rxfLen := rfl
@[simp] theorem raiseError_rx : (raiseError c x r k o s).rx = s.rx := rfl
@[simp] theorem raiseError_tracker : (raiseError c x r k o s).tracker = s.tracker := rfl
@[simp] theorem raiseError_mem : (raiseError c x r k o s).mem = s.mem := rfl
@[simp] theorem raiseError_progress : (raiseError c x r k o s).progress = s.progress := rfl
@[simp] theorem raiseError_params : (raiseError c x r k o s).params = s.params := rfl
@[simp] theorem raiseError_env : (raiseError c x r k o s).env = s.env := rfl

end raiseErrorFields

section clearErrorFields
variable (s : State)

@[simp] theorem clearError_ctrl : (clearError s).ctrl = s.ctrl := rfl
@[simp] theorem clearError_state : (clearError s).state = .idle := rfl
@[simp] theorem clearError_xphase : (clearError s).xphase = .none := rfl
@[simp] theorem clearError_cls : (clearError s).cls = s.cls := rfl
@[simp] theorem clearError_done : (clearError s).done = s.done := rfl
@[simp] theorem clearError_ovr : (clearError s).ovr = s.ovr := rfl
@[simp] theorem clearError_rxv : (clearError s).rxv = s.rxv := rfl
@[simp] theorem clearError_lastRx : (clearError s).lastRx = s.lastRx := rfl
@[simp] theorem clearError_errCode : (clearError s).errCode = .none := rfl
@[simp] theorem clearError_errInfo : (clearError s).errInfo = { exp := 0, rx := 0, cls := 0, op := 0 } := rfl
@[simp] theorem clearError_curOp : (clearError s).curOp = s.curOp := rfl
@[simp] theorem clearError_acc : (clearError s).acc = s.acc := rfl
@[simp] theorem clearError_len : (clearError s).len = s.len := rfl
@[simp] theorem clearError_addr : (clearError s).addr = s.addr := rfl
@[simp] theorem clearError_chunkLen : (clearError s).chunkLen = s.chunkLen := rfl
@[simp] theorem clearError_seq : (clearError s).seq = s.seq := rfl
@[simp] theorem clearError_nsent : (clearError s).nsent = s.nsent := rfl
@[simp] theorem clearError_remain : (clearError s).remain = s.remain := rfl
@[simp] theorem clearError_progSent : (clearError s).progSent = s.progSent := rfl
@[simp] theorem clearError_progTotal : (clearError s).progTotal = s.progTotal := rfl
@[simp] theorem clearError_silentRun : (clearError s).silentRun = s.silentRun := rfl
@[simp] theorem clearError_silentTotal : (clearError s).silentTotal = s.silentTotal := rfl
@[simp] theorem clearError_timeouts : (clearError s).timeouts = s.timeouts := rfl
@[simp] theorem clearError_startTimeout : (clearError s).startTimeout = s.startTimeout := rfl
@[simp] theorem clearError_txfLen : (clearError s).txfLen = s.txfLen := rfl
@[simp] theorem clearError_rxfLen : (clearError s).rxfLen = s.rxfLen := rfl
@[simp] theorem clearError_rx : (clearError s).rx = s.rx := rfl
@[simp] theorem clearError_tracker : (clearError s).tracker = s.tracker := rfl
@[simp] theorem clearError_mem : (clearError s).mem = s.mem := rfl
@[simp] theorem clearError_progress : (clearError s).progress = s.progress := rfl
@[simp] theorem clearError_params : (clearError s).params = s.params := rfl
@[simp] theorem clearError_env : (clearError s).env = s.env := rfl

end clearErrorFields

section buildFields
variable (p : List Byte) (c : FrameClass) (o : Byte) (s : State)

@[simp] theorem build_ctrl : (build p c o s).ctrl = s.ctrl := rfl
@[simp] theorem build_state : (build p c o s).state = .flush := rfl
@[simp] theorem build_xphase : (build p c o s).xphase = s.xphase := rfl
@[simp] theorem build_cls : (build p c o s).cls = c := rfl
@[simp] theorem build_done : (build p c o s).done = false := rfl
@[simp] theorem build_ovr : (build p c o s).ovr = s.ovr := rfl
@[simp] theorem build_rxv : (build p c o s).rxv = s.rxv := rfl
@[simp] theorem build_lastRx : (build p c o s).lastRx = s.lastRx := rfl
@[simp] theorem build_errCode : (build p c o s).errCode = s.errCode := rfl
@[simp] theorem build_errInfo : (build p c o s).errInfo = s.errInfo := rfl
@[simp] theorem build_curOp : (build p c o s).curOp = o := rfl
@[simp] theorem build_acc : (build p c o s).acc = crc16 p := rfl
@[simp] theorem build_len : (build p c o s).len = s.len := rfl
@[simp] theorem build_addr : (build p c o s).addr = s.addr := rfl
@[simp] theorem build_chunkLen : (build p c o s).chunkLen = s.chunkLen := rfl
@[simp] theorem build_seq : (build p c o s).seq = s.seq := rfl
@[simp] theorem build_nsent : (build p c o s).nsent = s.nsent := rfl
@[simp] theorem build_remain : (build p c o s).remain = s.remain := rfl
@[simp] theorem build_progSent : (build p c o s).progSent = s.progSent := rfl
@[simp] theorem build_progTotal : (build p c o s).progTotal = s.progTotal := rfl
@[simp] theorem build_silentRun : (build p c o s).silentRun = s.silentRun := rfl
@[simp] theorem build_silentTotal : (build p c o s).silentTotal = s.silentTotal := rfl
@[simp] theorem build_timeouts : (build p c o s).timeouts = s.timeouts := rfl
@[simp] theorem build_startTimeout : (build p c o s).startTimeout = s.startTimeout := rfl
@[simp] theorem build_txfLen : (build p c o s).txfLen = BitVec.ofNat 11 (frameOf p).length := rfl
@[simp] theorem build_rxfLen : (build p c o s).rxfLen = s.rxfLen := rfl
@[simp] theorem build_rx : (build p c o s).rx = s.rx := rfl
@[simp] theorem build_tracker : (build p c o s).tracker = s.tracker := rfl
@[simp] theorem build_mem : (build p c o s).mem = s.mem.write txfRegion.base (frameOf p) := rfl
@[simp] theorem build_progress : (build p c o s).progress = s.progress := rfl
@[simp] theorem build_params : (build p c o s).params = s.params := rfl
@[simp] theorem build_env : (build p c o s).env = s.env := rfl

end buildFields

section logLinkFields
variable (e : LinkEvent) (s : State)

@[simp] theorem logLink_ctrl : (logLink e s).ctrl = s.ctrl := rfl
@[simp] theorem logLink_state : (logLink e s).state = s.state := rfl
@[simp] theorem logLink_xphase : (logLink e s).xphase = s.xphase := rfl
@[simp] theorem logLink_cls : (logLink e s).cls = s.cls := rfl
@[simp] theorem logLink_done : (logLink e s).done = s.done := rfl
@[simp] theorem logLink_ovr : (logLink e s).ovr = s.ovr := rfl
@[simp] theorem logLink_rxv : (logLink e s).rxv = s.rxv := rfl
@[simp] theorem logLink_lastRx : (logLink e s).lastRx = s.lastRx := rfl
@[simp] theorem logLink_errCode : (logLink e s).errCode = s.errCode := rfl
@[simp] theorem logLink_errInfo : (logLink e s).errInfo = s.errInfo := rfl
@[simp] theorem logLink_curOp : (logLink e s).curOp = s.curOp := rfl
@[simp] theorem logLink_acc : (logLink e s).acc = s.acc := rfl
@[simp] theorem logLink_len : (logLink e s).len = s.len := rfl
@[simp] theorem logLink_addr : (logLink e s).addr = s.addr := rfl
@[simp] theorem logLink_chunkLen : (logLink e s).chunkLen = s.chunkLen := rfl
@[simp] theorem logLink_seq : (logLink e s).seq = s.seq := rfl
@[simp] theorem logLink_nsent : (logLink e s).nsent = s.nsent := rfl
@[simp] theorem logLink_remain : (logLink e s).remain = s.remain := rfl
@[simp] theorem logLink_progSent : (logLink e s).progSent = s.progSent := rfl
@[simp] theorem logLink_progTotal : (logLink e s).progTotal = s.progTotal := rfl
@[simp] theorem logLink_silentRun : (logLink e s).silentRun = s.silentRun := rfl
@[simp] theorem logLink_silentTotal : (logLink e s).silentTotal = s.silentTotal := rfl
@[simp] theorem logLink_timeouts : (logLink e s).timeouts = s.timeouts := rfl
@[simp] theorem logLink_startTimeout : (logLink e s).startTimeout = s.startTimeout := rfl
@[simp] theorem logLink_txfLen : (logLink e s).txfLen = s.txfLen := rfl
@[simp] theorem logLink_rxfLen : (logLink e s).rxfLen = s.rxfLen := rfl
@[simp] theorem logLink_rx : (logLink e s).rx = s.rx := rfl
@[simp] theorem logLink_tracker : (logLink e s).tracker = s.tracker := rfl
@[simp] theorem logLink_mem : (logLink e s).mem = s.mem := rfl
@[simp] theorem logLink_progress : (logLink e s).progress = s.progress := rfl
@[simp] theorem logLink_params : (logLink e s).params = s.params := rfl
@[simp] theorem logLink_env : (logLink e s).env = { s.env with link := s.env.link ++ [e] } := rfl

end logLinkFields

section emitProgressFields
variable (s : State)

@[simp] theorem emitProgress_ctrl : (emitProgress s).ctrl = s.ctrl := rfl
@[simp] theorem emitProgress_state : (emitProgress s).state = s.state := rfl
@[simp] theorem emitProgress_xphase : (emitProgress s).xphase = s.xphase := rfl
@[simp] theorem emitProgress_cls : (emitProgress s).cls = s.cls := rfl
@[simp] theorem emitProgress_done : (emitProgress s).done = s.done := rfl
@[simp] theorem emitProgress_ovr : (emitProgress s).ovr = s.ovr := rfl
@[simp] theorem emitProgress_rxv : (emitProgress s).rxv = s.rxv := rfl
@[simp] theorem emitProgress_lastRx : (emitProgress s).lastRx = s.lastRx := rfl
@[simp] theorem emitProgress_errCode : (emitProgress s).errCode = s.errCode := rfl
@[simp] theorem emitProgress_errInfo : (emitProgress s).errInfo = s.errInfo := rfl
@[simp] theorem emitProgress_curOp : (emitProgress s).curOp = s.curOp := rfl
@[simp] theorem emitProgress_acc : (emitProgress s).acc = s.acc := rfl
@[simp] theorem emitProgress_len : (emitProgress s).len = s.len := rfl
@[simp] theorem emitProgress_addr : (emitProgress s).addr = s.addr := rfl
@[simp] theorem emitProgress_chunkLen : (emitProgress s).chunkLen = s.chunkLen := rfl
@[simp] theorem emitProgress_seq : (emitProgress s).seq = s.seq := rfl
@[simp] theorem emitProgress_nsent : (emitProgress s).nsent = s.nsent := rfl
@[simp] theorem emitProgress_remain : (emitProgress s).remain = s.remain := rfl
@[simp] theorem emitProgress_progSent : (emitProgress s).progSent = s.progSent := rfl
@[simp] theorem emitProgress_progTotal : (emitProgress s).progTotal = s.progTotal := rfl
@[simp] theorem emitProgress_silentRun : (emitProgress s).silentRun = s.silentRun := rfl
@[simp] theorem emitProgress_silentTotal : (emitProgress s).silentTotal = s.silentTotal := rfl
@[simp] theorem emitProgress_timeouts : (emitProgress s).timeouts = s.timeouts := rfl
@[simp] theorem emitProgress_startTimeout : (emitProgress s).startTimeout = s.startTimeout := rfl
@[simp] theorem emitProgress_txfLen : (emitProgress s).txfLen = s.txfLen := rfl
@[simp] theorem emitProgress_rxfLen : (emitProgress s).rxfLen = s.rxfLen := rfl
@[simp] theorem emitProgress_rx : (emitProgress s).rx = s.rx := rfl
@[simp] theorem emitProgress_tracker : (emitProgress s).tracker = s.tracker := rfl
@[simp] theorem emitProgress_mem : (emitProgress s).mem = s.mem := rfl
@[simp] theorem emitProgress_progress : (emitProgress s).progress = s.progress ++ [{ sent := s.progSent, total := s.progTotal, percent := percent s.progSent s.progTotal }] := rfl
@[simp] theorem emitProgress_params : (emitProgress s).params = s.params := rfl
@[simp] theorem emitProgress_env : (emitProgress s).env = s.env := rfl

end emitProgressFields

section startTransferFields
variable (s : State)

@[simp] theorem startTransfer_ctrl : (startTransfer s).ctrl = s.ctrl := rfl
@[simp] theorem startTransfer_state : (startTransfer s).state = s.state := rfl
@[simp] theorem startTransfer_xphase : (startTransfer s).xphase = .head := rfl
@[simp] theorem startTransfer_cls : (startTransfer s).cls = s.cls := rfl
@[simp] theorem startTransfer_done : (startTransfer s).done = s.done := rfl
@[simp] theorem startTransfer_ovr : (startTransfer s).ovr = s.ovr := rfl
@[simp] theorem startTransfer_rxv : (startTransfer s).rxv = s.rxv := rfl
@[simp] theorem startTransfer_lastRx : (startTransfer s).lastRx = s.lastRx := rfl
@[simp] theorem startTransfer_errCode : (startTransfer s).errCode = s.errCode := rfl
@[simp] theorem startTransfer_errInfo : (startTransfer s).errInfo = s.errInfo := rfl
@[simp] theorem startTransfer_curOp : (startTransfer s).curOp = s.curOp := rfl
@[simp] theorem startTransfer_acc : (startTransfer s).acc = s.acc := rfl
@[simp] theorem startTransfer_len : (startTransfer s).len = s.len := rfl
@[simp] theorem startTransfer_addr : (startTransfer s).addr = s.addr := rfl
@[simp] theorem startTransfer_chunkLen : (startTransfer s).chunkLen = s.chunkLen := rfl
@[simp] theorem startTransfer_seq : (startTransfer s).seq = 1 := rfl
@[simp] theorem startTransfer_nsent : (startTransfer s).nsent = 0 := rfl
@[simp] theorem startTransfer_remain : (startTransfer s).remain = s.len := rfl
@[simp] theorem startTransfer_progSent : (startTransfer s).progSent = 0 := rfl
@[simp] theorem startTransfer_progTotal : (startTransfer s).progTotal = BitVec.ofNat 32 (frameCount s.len) := rfl
@[simp] theorem startTransfer_silentRun : (startTransfer s).silentRun = s.silentRun := rfl
@[simp] theorem startTransfer_silentTotal : (startTransfer s).silentTotal = s.silentTotal := rfl
@[simp] theorem startTransfer_timeouts : (startTransfer s).timeouts = s.timeouts := rfl
@[simp] theorem startTransfer_startTimeout : (startTransfer s).startTimeout = s.startTimeout := rfl
@[simp] theorem startTransfer_txfLen : (startTransfer s).txfLen = s.txfLen := rfl
@[simp] theorem startTransfer_rxfLen : (startTransfer s).rxfLen = s.rxfLen := rfl
@[simp] theorem startTransfer_rx : (startTransfer s).rx = s.rx := rfl
@[simp] theorem startTransfer_tracker : (startTransfer s).tracker = s.tracker := rfl
@[simp] theorem startTransfer_mem : (startTransfer s).mem = s.mem := rfl
@[simp] theorem startTransfer_progress : (startTransfer s).progress = s.progress := rfl
@[simp] theorem startTransfer_params : (startTransfer s).params = s.params := rfl
@[simp] theorem startTransfer_env : (startTransfer s).env = s.env := rfl

end startTransferFields

section countDataFrameFields
variable (s : State)

@[simp] theorem countDataFrame_ctrl : (countDataFrame s).ctrl = s.ctrl := rfl
@[simp] theorem countDataFrame_state : (countDataFrame s).state = s.state := rfl
@[simp] theorem countDataFrame_xphase : (countDataFrame s).xphase = s.xphase := rfl
@[simp] theorem countDataFrame_cls : (countDataFrame s).cls = s.cls := rfl
@[simp] theorem countDataFrame_done : (countDataFrame s).done = s.done := rfl
@[simp] theorem countDataFrame_ovr : (countDataFrame s).ovr = s.ovr := rfl
@[simp] theorem countDataFrame_rxv : (countDataFrame s).rxv = s.rxv := rfl
@[simp] theorem countDataFrame_lastRx : (countDataFrame s).lastRx = s.lastRx := rfl
@[simp] theorem countDataFrame_errCode : (countDataFrame s).errCode = s.errCode := rfl
@[simp] theorem countDataFrame_errInfo : (countDataFrame s).errInfo = s.errInfo := rfl
@[simp] theorem countDataFrame_curOp : (countDataFrame s).curOp = s.curOp := rfl
@[simp] theorem countDataFrame_acc : (countDataFrame s).acc = s.acc := rfl
@[simp] theorem countDataFrame_len : (countDataFrame s).len = s.len := rfl
@[simp] theorem countDataFrame_addr : (countDataFrame s).addr = s.addr := rfl
@[simp] theorem countDataFrame_chunkLen : (countDataFrame s).chunkLen = s.chunkLen := rfl
@[simp] theorem countDataFrame_seq : (countDataFrame s).seq = s.seq + 1 := rfl
@[simp] theorem countDataFrame_nsent : (countDataFrame s).nsent = s.nsent + 1 := rfl
@[simp] theorem countDataFrame_remain : (countDataFrame s).remain = s.remain - chunkInFlight s := rfl
@[simp] theorem countDataFrame_progSent : (countDataFrame s).progSent = s.nsent + 1 := rfl
@[simp] theorem countDataFrame_progTotal : (countDataFrame s).progTotal = s.progTotal := rfl
@[simp] theorem countDataFrame_silentRun : (countDataFrame s).silentRun = s.silentRun := rfl
@[simp] theorem countDataFrame_silentTotal : (countDataFrame s).silentTotal = s.silentTotal := rfl
@[simp] theorem countDataFrame_timeouts : (countDataFrame s).timeouts = s.timeouts := rfl
@[simp] theorem countDataFrame_startTimeout : (countDataFrame s).startTimeout = s.startTimeout := rfl
@[simp] theorem countDataFrame_txfLen : (countDataFrame s).txfLen = s.txfLen := rfl
@[simp] theorem countDataFrame_rxfLen : (countDataFrame s).rxfLen = s.rxfLen := rfl
@[simp] theorem countDataFrame_rx : (countDataFrame s).rx = s.rx := rfl
@[simp] theorem countDataFrame_tracker : (countDataFrame s).tracker = s.tracker := rfl
@[simp] theorem countDataFrame_mem : (countDataFrame s).mem = s.mem := rfl
@[simp] theorem countDataFrame_progress : (countDataFrame s).progress = s.progress := rfl
@[simp] theorem countDataFrame_params : (countDataFrame s).params = s.params := rfl
@[simp] theorem countDataFrame_env : (countDataFrame s).env = s.env := rfl

end countDataFrameFields

section storeInFields
variable (r : Region) (a : Nat) (v : Word) (s : State)

@[simp] theorem storeIn_ctrl : (storeIn r a v s).ctrl = s.ctrl := rfl
@[simp] theorem storeIn_state : (storeIn r a v s).state = s.state := rfl
@[simp] theorem storeIn_xphase : (storeIn r a v s).xphase = s.xphase := rfl
@[simp] theorem storeIn_cls : (storeIn r a v s).cls = s.cls := rfl
@[simp] theorem storeIn_done : (storeIn r a v s).done = s.done := rfl
@[simp] theorem storeIn_ovr : (storeIn r a v s).ovr = s.ovr := rfl
@[simp] theorem storeIn_rxv : (storeIn r a v s).rxv = s.rxv := rfl
@[simp] theorem storeIn_lastRx : (storeIn r a v s).lastRx = s.lastRx := rfl
@[simp] theorem storeIn_errCode : (storeIn r a v s).errCode = s.errCode := rfl
@[simp] theorem storeIn_errInfo : (storeIn r a v s).errInfo = s.errInfo := rfl
@[simp] theorem storeIn_curOp : (storeIn r a v s).curOp = s.curOp := rfl
@[simp] theorem storeIn_acc : (storeIn r a v s).acc = s.acc := rfl
@[simp] theorem storeIn_len : (storeIn r a v s).len = s.len := rfl
@[simp] theorem storeIn_addr : (storeIn r a v s).addr = s.addr := rfl
@[simp] theorem storeIn_chunkLen : (storeIn r a v s).chunkLen = s.chunkLen := rfl
@[simp] theorem storeIn_seq : (storeIn r a v s).seq = s.seq := rfl
@[simp] theorem storeIn_nsent : (storeIn r a v s).nsent = s.nsent := rfl
@[simp] theorem storeIn_remain : (storeIn r a v s).remain = s.remain := rfl
@[simp] theorem storeIn_progSent : (storeIn r a v s).progSent = s.progSent := rfl
@[simp] theorem storeIn_progTotal : (storeIn r a v s).progTotal = s.progTotal := rfl
@[simp] theorem storeIn_silentRun : (storeIn r a v s).silentRun = s.silentRun := rfl
@[simp] theorem storeIn_silentTotal : (storeIn r a v s).silentTotal = s.silentTotal := rfl
@[simp] theorem storeIn_timeouts : (storeIn r a v s).timeouts = s.timeouts := rfl
@[simp] theorem storeIn_startTimeout : (storeIn r a v s).startTimeout = s.startTimeout := rfl
@[simp] theorem storeIn_txfLen : (storeIn r a v s).txfLen = s.txfLen := rfl
@[simp] theorem storeIn_rxfLen : (storeIn r a v s).rxfLen = s.rxfLen := rfl
@[simp] theorem storeIn_rx : (storeIn r a v s).rx = s.rx := rfl
@[simp] theorem storeIn_tracker : (storeIn r a v s).tracker = s.tracker := rfl
@[simp] theorem storeIn_mem : (storeIn r a v s).mem = s.mem.write a ((le32 v).take (r.base + r.size - a)) := rfl
@[simp] theorem storeIn_progress : (storeIn r a v s).progress = s.progress := rfl
@[simp] theorem storeIn_params : (storeIn r a v s).params = s.params := rfl
@[simp] theorem storeIn_env : (storeIn r a v s).env = s.env := rfl

end storeInFields

section withInputsFields
variable (es : List Event) (s : State)

@[simp] theorem withInputs_ctrl : (s.withInputs es).ctrl = s.ctrl := rfl
@[simp] theorem withInputs_state : (s.withInputs es).state = s.state := rfl
@[simp] theorem withInputs_xphase : (s.withInputs es).xphase = s.xphase := rfl
@[simp] theorem withInputs_cls : (s.withInputs es).cls = s.cls := rfl
@[simp] theorem withInputs_done : (s.withInputs es).done = s.done := rfl
@[simp] theorem withInputs_ovr : (s.withInputs es).ovr = s.ovr := rfl
@[simp] theorem withInputs_rxv : (s.withInputs es).rxv = s.rxv := rfl
@[simp] theorem withInputs_lastRx : (s.withInputs es).lastRx = s.lastRx := rfl
@[simp] theorem withInputs_errCode : (s.withInputs es).errCode = s.errCode := rfl
@[simp] theorem withInputs_errInfo : (s.withInputs es).errInfo = s.errInfo := rfl
@[simp] theorem withInputs_curOp : (s.withInputs es).curOp = s.curOp := rfl
@[simp] theorem withInputs_acc : (s.withInputs es).acc = s.acc := rfl
@[simp] theorem withInputs_len : (s.withInputs es).len = s.len := rfl
@[simp] theorem withInputs_addr : (s.withInputs es).addr = s.addr := rfl
@[simp] theorem withInputs_chunkLen : (s.withInputs es).chunkLen = s.chunkLen := rfl
@[simp] theorem withInputs_seq : (s.withInputs es).seq = s.seq := rfl
@[simp] theorem withInputs_nsent : (s.withInputs es).nsent = s.nsent := rfl
@[simp] theorem withInputs_remain : (s.withInputs es).remain = s.remain := rfl
@[simp] theorem withInputs_progSent : (s.withInputs es).progSent = s.progSent := rfl
@[simp] theorem withInputs_progTotal : (s.withInputs es).progTotal = s.progTotal := rfl
@[simp] theorem withInputs_silentRun : (s.withInputs es).silentRun = s.silentRun := rfl
@[simp] theorem withInputs_silentTotal : (s.withInputs es).silentTotal = s.silentTotal := rfl
@[simp] theorem withInputs_timeouts : (s.withInputs es).timeouts = s.timeouts := rfl
@[simp] theorem withInputs_startTimeout : (s.withInputs es).startTimeout = s.startTimeout := rfl
@[simp] theorem withInputs_txfLen : (s.withInputs es).txfLen = s.txfLen := rfl
@[simp] theorem withInputs_rxfLen : (s.withInputs es).rxfLen = s.rxfLen := rfl
@[simp] theorem withInputs_rx : (s.withInputs es).rx = s.rx := rfl
@[simp] theorem withInputs_tracker : (s.withInputs es).tracker = s.tracker := rfl
@[simp] theorem withInputs_mem : (s.withInputs es).mem = s.mem := rfl
@[simp] theorem withInputs_progress : (s.withInputs es).progress = s.progress := rfl
@[simp] theorem withInputs_params : (s.withInputs es).params = s.params := rfl
@[simp] theorem withInputs_env : (s.withInputs es).env = { s.env with inputs := es } := rfl

end withInputsFields

section countDrawFields
variable (s : State)

@[simp] theorem countDraw_ctrl : (countDraw s).ctrl = s.ctrl := rfl
@[simp] theorem countDraw_state : (countDraw s).state = s.state := rfl
@[simp] theorem countDraw_xphase : (countDraw s).xphase = s.xphase := rfl
@[simp] theorem countDraw_cls : (countDraw s).cls = s.cls := rfl
@[simp] theorem countDraw_done : (countDraw s).done = s.done := rfl
@[simp] theorem countDraw_ovr : (countDraw s).ovr = s.ovr := rfl
@[simp] theorem countDraw_rxv : (countDraw s).rxv = s.rxv := rfl
@[simp] theorem countDraw_lastRx : (countDraw s).lastRx = s.lastRx := rfl
@[simp] theorem countDraw_errCode : (countDraw s).errCode = s.errCode := rfl
@[simp] theorem countDraw_errInfo : (countDraw s).errInfo = s.errInfo := rfl
@[simp] theorem countDraw_curOp : (countDraw s).curOp = s.curOp := rfl
@[simp] theorem countDraw_acc : (countDraw s).acc = s.acc := rfl
@[simp] theorem countDraw_len : (countDraw s).len = s.len := rfl
@[simp] theorem countDraw_addr : (countDraw s).addr = s.addr := rfl
@[simp] theorem countDraw_chunkLen : (countDraw s).chunkLen = s.chunkLen := rfl
@[simp] theorem countDraw_seq : (countDraw s).seq = s.seq := rfl
@[simp] theorem countDraw_nsent : (countDraw s).nsent = s.nsent := rfl
@[simp] theorem countDraw_remain : (countDraw s).remain = s.remain := rfl
@[simp] theorem countDraw_progSent : (countDraw s).progSent = s.progSent := rfl
@[simp] theorem countDraw_progTotal : (countDraw s).progTotal = s.progTotal := rfl
@[simp] theorem countDraw_silentRun : (countDraw s).silentRun = s.silentRun := rfl
@[simp] theorem countDraw_silentTotal : (countDraw s).silentTotal = s.silentTotal := rfl
@[simp] theorem countDraw_timeouts : (countDraw s).timeouts = s.timeouts := rfl
@[simp] theorem countDraw_startTimeout : (countDraw s).startTimeout = s.startTimeout := rfl
@[simp] theorem countDraw_txfLen : (countDraw s).txfLen = s.txfLen := rfl
@[simp] theorem countDraw_rxfLen : (countDraw s).rxfLen = s.rxfLen := rfl
@[simp] theorem countDraw_rx : (countDraw s).rx = s.rx := rfl
@[simp] theorem countDraw_tracker : (countDraw s).tracker = s.tracker := rfl
@[simp] theorem countDraw_mem : (countDraw s).mem = s.mem := rfl
@[simp] theorem countDraw_progress : (countDraw s).progress = s.progress := rfl
@[simp] theorem countDraw_params : (countDraw s).params = s.params := rfl
@[simp] theorem countDraw_env : (countDraw s).env = { s.env with draws := s.env.draws + 1 } := rfl

end countDrawFields

section onHostReadFields
variable (o : Offset) (s : State)

@[simp] theorem onHostRead_ctrl : (onHostRead o s).ctrl = s.ctrl := rfl
@[simp] theorem onHostRead_state : (onHostRead o s).state = s.state := rfl
@[simp] theorem onHostRead_xphase : (onHostRead o s).xphase = s.xphase := rfl
@[simp] theorem onHostRead_cls : (onHostRead o s).cls = s.cls := rfl
@[simp] theorem onHostRead_done : (onHostRead o s).done = s.done := rfl
@[simp] theorem onHostRead_ovr : (onHostRead o s).ovr = s.ovr := rfl
@[simp] theorem onHostRead_rxv : (onHostRead o s).rxv = s.rxv := rfl
@[simp] theorem onHostRead_lastRx : (onHostRead o s).lastRx = s.lastRx := rfl
@[simp] theorem onHostRead_errCode : (onHostRead o s).errCode = s.errCode := rfl
@[simp] theorem onHostRead_errInfo : (onHostRead o s).errInfo = s.errInfo := rfl
@[simp] theorem onHostRead_curOp : (onHostRead o s).curOp = s.curOp := rfl
@[simp] theorem onHostRead_acc : (onHostRead o s).acc = s.acc := rfl
@[simp] theorem onHostRead_len : (onHostRead o s).len = s.len := rfl
@[simp] theorem onHostRead_addr : (onHostRead o s).addr = s.addr := rfl
@[simp] theorem onHostRead_chunkLen : (onHostRead o s).chunkLen = s.chunkLen := rfl
@[simp] theorem onHostRead_seq : (onHostRead o s).seq = s.seq := rfl
@[simp] theorem onHostRead_nsent : (onHostRead o s).nsent = s.nsent := rfl
@[simp] theorem onHostRead_remain : (onHostRead o s).remain = s.remain := rfl
@[simp] theorem onHostRead_progSent : (onHostRead o s).progSent = s.progSent := rfl
@[simp] theorem onHostRead_progTotal : (onHostRead o s).progTotal = s.progTotal := rfl
@[simp] theorem onHostRead_silentRun : (onHostRead o s).silentRun = s.silentRun := rfl
@[simp] theorem onHostRead_silentTotal : (onHostRead o s).silentTotal = s.silentTotal := rfl
@[simp] theorem onHostRead_timeouts : (onHostRead o s).timeouts = s.timeouts := rfl
@[simp] theorem onHostRead_startTimeout : (onHostRead o s).startTimeout = s.startTimeout := rfl
@[simp] theorem onHostRead_txfLen : (onHostRead o s).txfLen = s.txfLen := rfl
@[simp] theorem onHostRead_rxfLen : (onHostRead o s).rxfLen = s.rxfLen := rfl
@[simp] theorem onHostRead_rx : (onHostRead o s).rx = s.rx := rfl
@[simp] theorem onHostRead_tracker : (onHostRead o s).tracker = s.tracker := rfl
@[simp] theorem onHostRead_mem : (onHostRead o s).mem = s.mem := rfl
@[simp] theorem onHostRead_progress : (onHostRead o s).progress = s.progress := rfl
@[simp] theorem onHostRead_params : (onHostRead o s).params = s.params := rfl
@[simp] theorem onHostRead_env : (onHostRead o s).env = { s.env with reads := s.env.reads ++ [hostLoad o s] } := rfl

end onHostReadFields

end Sys2Proof.Machine
end

