-- ==== Sys2Proof/Laws/Ops.lean ====
section
/-! SUPPORT. What each shared operation can do, said once: acceptance, the frame build, the tail build, the verdict of
a handshake. Later proofs cite these and unfold none of the operations. -/

namespace Sys2Proof.Machine

@[simp] theorem length_be16 (x : Half) : (be16 x).length = 2 := rfl

@[simp] theorem length_be32 (x : Word) : (be32 x).length = 4 := rfl

@[simp] theorem length_le32 (x : Word) : (le32 x).length = 4 := rfl

@[simp] theorem length_headPayload (l a : Word) : (headPayload l a).length = 12 := rfl

@[simp] theorem length_tailPayload (n : Byte) : (tailPayload n).length = 3 := rfl

@[simp] theorem length_dataPayload (n : Byte) (c : List Byte) : (dataPayload n c).length = c.length + 3 := by
  simp [dataPayload]

@[simp] theorem length_frameOf (p : List Byte) : (frameOf p).length = p.length + 2 := by simp [frameOf]

@[simp] theorem length_chunkBytes (s : State) (n : Nat) : (s.chunkBytes n).length = n := by
  simp [State.chunkBytes]

@[simp] theorem length_rxfBytes (s : State) (n : Nat) : (s.rxfBytes n).length = n := by simp [State.rxfBytes]

@[simp] theorem length_txFrame (s : State) : s.txFrame.length = s.txfLen.toNat := by simp [State.txFrame]

/-- Everything acceptance can do (R127). -/
theorem accept_cases (g : CmdGroup) (op : Byte) (f : Bool) (e s : State) :
    accept g op f e s = setOvr s ∨
    ((s.state = .idle ∨ s.state = .waitChunk) ∧ f = true ∧
      accept g op f e s = raiseError .chunkLen 0 0 0 op s) ∨
    (s.busy = false ∧ accepts g s.state = true ∧ f = false ∧ accept g op f e s = e) := by
  unfold accept
  split
  · exact .inl rfl
  · rename_i hb
    split
    · exact .inl rfl
    · rename_i ha
      split
      · rename_i hf
        unfold acceptanceError
        split
        · rename_i h; exact .inr (.inl ⟨.inl h, hf, rfl⟩)
        · rename_i h; exact .inr (.inl ⟨.inr h, hf, rfl⟩)
        all_goals exact .inl rfl
      · rename_i hf
        exact .inr (.inr ⟨by simpa using hb, by simpa using ha, by simpa using hf, rfl⟩)

/-- A command that the state accepts and that has no operand fault is executed (R127). -/
theorem accept_executed {g : CmdGroup} {op : Byte} {f : Bool} {e s : State} (ha : accepts g s.state = true)
    (hf : f = false) : accept g op f e s = e := by
  have hb : s.busy = false := by
    unfold State.busy
    revert ha
    cases s.state <;> cases g <;> simp [accepts]
  simp [accept, hb, ha, hf]

/-- A command that the state does not accept only sets `OVR` (R68). -/
theorem accept_refused {g : CmdGroup} {op : Byte} {f : Bool} {e s : State} (ha : accepts g s.state = false) :
    accept g op f e s = setOvr s := by
  unfold accept
  split
  · rfl
  · simp [ha]

/-- An operand fault in an accepting IDLE or WAIT_CHUNK raises CHUNK_LEN (R128). -/
theorem accept_fault {g : CmdGroup} {op : Byte} {f : Bool} {e s : State} (ha : accepts g s.state = true)
    (hs : s.state = .idle ∨ s.state = .waitChunk) (hf : f = true) :
    accept g op f e s = raiseError .chunkLen 0 0 0 op s := by
  have hb : s.busy = false := by rcases hs with h | h <;> simp [State.busy, h]
  unfold accept acceptanceError
  rw [hb, ha, hf]
  rcases hs with h | h <;> rw [h] <;> rfl

/-- `TXF_LEN` after a build (R84). -/
theorem build_txfLen_toNat (p : List Byte) (c : FrameClass) (o : Byte) (s : State) (h : p.length ≤ 1027) :
    (build p c o s).txfLen.toNat = p.length + 2 := by
  simp only [build_txfLen, length_frameOf, BitVec.toNat_ofNat]
  exact Nat.mod_eq_of_lt (by omega)

/-- The frame in `TXF` after a build (R84). -/
theorem build_txFrame (p : List Byte) (c : FrameClass) (o : Byte) (s : State) (h : p.length ≤ 1027) :
    (build p c o s).txFrame = frameOf p := by
  unfold State.txFrame
  rw [build_txfLen_toNat p c o s h, build_mem, ← length_frameOf, bytes_write_same]

/-- A build changes no byte outside `TXF[0:TXF_LEN]` (R84). -/
theorem build_read_outside (p : List Byte) (c : FrameClass) (o : Byte) (s : State) (a : Nat)
    (h : a < txfRegion.base ∨ txfRegion.base + (p.length + 2) ≤ a) :
    (build p c o s).mem.read a = s.mem.read a := by
  rw [build_mem]
  exact read_write_outside _ _ _ _ (by rw [length_frameOf]; exact h)

/-- A byte of the frame just built. -/
theorem build_read_inside (p : List Byte) (c : FrameClass) (o : Byte) (s : State) (k : Nat)
    (h : k < (frameOf p).length) : (build p c o s).mem.read (txfRegion.base + k) = (frameOf p)[k] := by
  rw [build_mem, read_write_inside _ _ _ _ h]

theorem buildTail_eq (s : State) :
    buildTail s = build (tailPayload (tailCount s)) .tail s.curOp { s with xphase := .tail } := rfl

/-- Everything the verdict on a byte can do (R95). -/
theorem byteVerdict_cases (b : Byte) (s : State) :
    (b = 0xAA ∧ byteVerdict b s = success { s with rxv := true, lastRx := b, silentRun := 0 }) ∨
    (b ≠ 0xAA ∧ byteVerdict b s =
      raiseError .protocolViolation 0xAA b s.cls.code s.curOp { s with rxv := true, lastRx := b }) := by
  unfold byteVerdict
  by_cases h : b = Config.ack
  · exact .inl ⟨h, if_pos h⟩
  · exact .inr ⟨h, if_neg h⟩

/-- Everything the verdict on a timeout can do (R95, R96). -/
theorem timeoutVerdict_cases (s : State) :
    ((s.cls ≠ .data ∨ s.ctrl.sdOk = true) ∧ timeoutVerdict s =
      success { s with rxv := false, lastRx := 0x00, silentRun := s.silentRun + 1, silentTotal := s.silentTotal + 1 }) ∨
    (s.cls = .data ∧ s.ctrl.sdOk = false ∧ timeoutVerdict s =
      raiseError .ackTimeout 0xAA 0 1 s.curOp { s with rxv := false, lastRx := 0x00 }) := by
  unfold timeoutVerdict
  by_cases h : s.cls = .data ∧ s.ctrl.sdOk = false
  · exact .inr ⟨h.1, h.2, if_pos h⟩
  · refine .inl ⟨?_, if_neg h⟩
    by_cases hc : s.cls = .data
    · exact .inr (by simpa [hc] using h)
    · exact .inl hc

/-- Everything the timeout of a read can be: the register's value at the start of the handshake, or its value now
(R29, R93). -/
theorem ackTimeout_cases (s : State) : ackTimeout s = s.startTimeout ∨ ackTimeout s = classTimeout s := by
  unfold ackTimeout
  split
  · exact .inl rfl
  · exact .inr rfl

/-- Where the register has not changed since the handshake started, R29 and R93 give one timeout. -/
theorem ackTimeout_eq_of_unchanged {s : State} (h : s.startTimeout = classTimeout s) :
    ackTimeout s = classTimeout s := by
  rcases ackTimeout_cases s with h' | h'
  · exact h'.trans h
  · exact h'

/-- The FLUSH step holds the class timeout as it stands when the handshake starts (R29, R90). -/
@[simp] theorem flushStep_ok (s : State) : flushStep true s =
    { logLink (.flush true) s with state := .tx, startTimeout := classTimeout s } := rfl

/-- Everything a WAIT_ACK step can do (R94, R95): with `u` the state after the read is recorded, ERROR, or the
continuation of R97 from a state that differs from `u` in `RXV`, `LAST_RX` and the silent counters. -/
theorem waitAckStep_cases (r : ReadOutcome) (s : State) :
    (∃ v l c x y k, waitAckStep r s =
      raiseError c x y k s.curOp { logLink (.read (ackTimeout s) r) s with rxv := v, lastRx := l } ∧ c ≠ .none) ∨
    (r ≠ .err ∧ ∃ v l n m, waitAckStep r s =
      success { logLink (.read (ackTimeout s) r) s with rxv := v, lastRx := l, silentRun := n, silentTotal := m }) := by
  cases r with
  | err => exact .inl ⟨_, _, _, _, _, _, rfl, by simp⟩
  | byte b =>
    rcases byteVerdict_cases b (logLink (.read (ackTimeout s) (.byte b)) s) with ⟨_, h⟩ | ⟨_, h⟩
    · exact .inr ⟨by simp, true, b, 0, _, h⟩
    · exact .inl ⟨true, b, _, _, _, _, h, by simp⟩
  | timeout =>
    rcases timeoutVerdict_cases (logLink (.read (ackTimeout s) .timeout) s) with ⟨_, h⟩ | ⟨_, _, h⟩
    · exact .inr ⟨by simp, false, 0, _, _, h⟩
    · exact .inl ⟨false, 0, _, _, _, _, h, by simp⟩

theorem success_none {s : State} (h : s.xphase = .none) : success s = { s with state := .idle, done := true } := by
  unfold success; rw [h]

theorem success_head {s : State} (h : s.xphase = .head) : success s = headDone s := by
  unfold success; rw [h]

theorem success_data {s : State} (h : s.xphase = .data) : success s = dataDone s := by
  unfold success; rw [h]

theorem success_tail {s : State} (h : s.xphase = .tail) : success s = tailDone s := by
  unfold success; rw [h]

/-- Everything the continuation of a successful handshake can do (R97, R104, R106, R108). -/
theorem success_cases (s : State) :
    (s.xphase = .none ∧ success s = { s with state := .idle, done := true }) ∨
    (s.xphase = .head ∧ s.remain ≠ 0 ∧ success s = { s with xphase := .data, state := .waitChunk }) ∨
    (s.xphase = .head ∧ s.remain = 0 ∧ success s = buildTail s) ∨
    (s.xphase = .data ∧ s.remain - chunkInFlight s ≠ 0 ∧
      success s = { emitProgress (countDataFrame s) with state := .waitChunk }) ∨
    (s.xphase = .data ∧ s.remain - chunkInFlight s = 0 ∧
      success s = buildTail (emitProgress (countDataFrame s))) ∨
    (s.xphase = .tail ∧ success s = logLink (.settle s.timeouts.settle) { s with state := .settle }) := by
  cases h : s.xphase with
  | none => exact .inl ⟨rfl, by rw [success_none h, h]⟩
  | head =>
    rw [success_head h]
    by_cases hr : s.remain = 0
    · exact .inr (.inr (.inl ⟨rfl, hr, if_pos hr⟩))
    · exact .inr (.inl ⟨rfl, hr, if_neg hr⟩)
  | data =>
    rw [success_data h]
    by_cases hr : s.remain - chunkInFlight s = 0
    · exact .inr (.inr (.inr (.inr (.inl ⟨rfl, hr, if_pos hr⟩))))
    · exact .inr (.inr (.inr (.inl ⟨rfl, hr, if_neg hr⟩)))
  | tail => exact .inr (.inr (.inr (.inr (.inr ⟨rfl, by rw [success_tail h, tailDone, h]⟩))))

end Sys2Proof.Machine
end

