-- ==== Sys2Proof/Laws/Decoder.lean ====
section
/-! SUPPORT. What the decoder can answer, said once (44_frame_decoder.md R124), and the bytes it reads. -/

namespace Sys2Proof.Machine

/-- A byte of `RXF[0:n]` is the byte of memory at its place. -/
theorem byteAt_rxfBytes (s : State) (n i : Nat) (h : i < n) :
    byteAt (s.rxfBytes n) i = s.mem.read (rxfRegion.base + i) := by
  unfold byteAt State.rxfBytes
  rw [List.getD_eq_getElem _ _ (by simpa using h), getElem_bytes]

/-- Everything the check after the length check can answer (R115, R124). -/
theorem checkFrame_cases (o : Bool) (t : RxType) (f : List Byte) (n : Nat) (k : Tracker) :
    (trailer f n ≠ crc16 (f.take (n - 2)) ∧ checkFrame o t f n k =
      ({ RxRegs.zero with kind := t, code := .badCrc, recvCrc := trailer f n, calcCrc := crc16 (f.take (n - 2)) }, k)) ∨
    (trailer f n = crc16 (f.take (n - 2)) ∧ (t = .data ∨ t = .tail) ∧ byteAt f 2 ≠ ~~~(byteAt f 1) ∧
      checkFrame o t f n k =
        ({ RxRegs.zero with
            kind := t, code := .badComplement, recvCrc := trailer f n, calcCrc := crc16 (f.take (n - 2)) }, k)) ∨
    (trailer f n = crc16 (f.take (n - 2)) ∧ ¬((t = .data ∨ t = .tail) ∧ byteAt f 2 ≠ ~~~(byteAt f 1)) ∧
      checkFrame o t f n k =
        ({ extractFields t f n
            { RxRegs.zero with kind := t, recvCrc := trailer f n, calcCrc := crc16 (f.take (n - 2)) } with
            code := (track o t (byteAt f 1) k).1 }, (track o t (byteAt f 1) k).2)) := by
  unfold checkFrame
  by_cases h1 : trailer f n = crc16 (f.take (n - 2))
  · by_cases h2 : (t = .data ∨ t = .tail) ∧ byteAt f 2 ≠ ~~~(byteAt f 1)
    · refine .inr (.inl ⟨h1, h2.1, h2.2, ?_⟩)
      simp only [h1, ne_eq, not_true_eq_false, if_false]
      rw [if_pos h2]
    · refine .inr (.inr ⟨h1, h2, ?_⟩)
      simp only [h1, ne_eq, not_true_eq_false, if_false]
      rw [if_neg h2]
  · exact .inl ⟨h1, if_pos h1⟩

/-- Everything the decoder can answer before it reads the trailer (R115, R124). -/
theorem decodeFrame_cases (o : Bool) (f : List Byte) (n : Nat) (k : Tracker) :
    (1029 < n ∧ decodeFrame o f n k = ({ RxRegs.zero with code := .badLength }, k)) ∨
    (n ≤ 1029 ∧ classify f n = .none ∧ decodeFrame o f n k = ({ RxRegs.zero with code := .noDelimiter }, k)) ∨
    (n ≤ 1029 ∧ classify f n ≠ .none ∧ lengthOk (classify f n) n = false ∧
      decodeFrame o f n k = ({ RxRegs.zero with kind := classify f n, code := .badLength }, k)) ∨
    (n ≤ 1029 ∧ classify f n ≠ .none ∧ lengthOk (classify f n) n = true ∧
      decodeFrame o f n k = checkFrame o (classify f n) f n k) := by
  unfold decodeFrame Config.maxFrame
  by_cases h1 : 1029 < n
  · exact .inl ⟨h1, if_pos h1⟩
  · rw [if_neg h1]
    by_cases h2 : classify f n = .none
    · exact .inr (.inl ⟨by omega, h2, if_pos h2⟩)
    · rw [if_neg h2]
      cases h3 : lengthOk (classify f n) n
      · exact .inr (.inr (.inl ⟨by omega, h2, rfl, if_pos rfl⟩))
      · exact .inr (.inr (.inr ⟨by omega, h2, rfl, if_neg (by simp)⟩))

end Sys2Proof.Machine
end

