-- ==== Sys2Proof/Laws/PerInstr.lean ====
section
/-! SUPPORT. One family of statements per command, about the command as syntax: the three fields of its word (R58). -/

namespace Sys2Proof.Laws

/-- The fields of a word that is put together from an `ARG` and an `OP` byte (R58). -/
theorem word_fields (arg op : Byte) :
    wordOp ((0 : Half) ++ arg ++ op) = op ∧ wordArg ((0 : Half) ++ arg ++ op) = arg ∧
      wordRsv ((0 : Half) ++ arg ++ op) = 0 := by
  refine ⟨?_, ?_, ?_⟩ <;> apply BitVec.eq_of_getLsbD_eq <;> intro i hi
  · simp only [wordOp, BitVec.getLsbD_extractLsb', BitVec.getLsbD_append]
    simp [hi]
  · simp only [wordArg, BitVec.getLsbD_extractLsb', BitVec.getLsbD_append]
    simp [hi]
  · simp only [wordRsv, BitVec.getLsbD_extractLsb', BitVec.getLsbD_append]
    rw [if_neg (by omega), if_neg (by omega)]
    simp

/-- The word of `i` has the opcode of its row in bits 7:0, its operand in bits 15:8, and zero above (R58). -/
def EncodeFields.Statement (i : Instr) : Prop :=
  wordOp (encode i) = opcode i ∧ wordArg (encode i) = operand i ∧ wordRsv (encode i) = 0

theorem EncodeFields.nop : EncodeFields.Statement .nop := word_fields _ _
theorem EncodeFields.crcInit : EncodeFields.Statement .crcInit := word_fields _ _
theorem EncodeFields.crcByte (b : Byte) : EncodeFields.Statement (.crcByte b) := word_fields _ _
theorem EncodeFields.crcFinish : EncodeFields.Statement .crcFinish := word_fields _ _
theorem EncodeFields.crcBuf : EncodeFields.Statement .crcBuf := word_fields _ _
theorem EncodeFields.sendHead : EncodeFields.Statement .sendHead := word_fields _ _
theorem EncodeFields.sendData (n : Byte) : EncodeFields.Statement (.sendData n) := word_fields _ _
theorem EncodeFields.sendTail (n : Byte) : EncodeFields.Statement (.sendTail n) := word_fields _ _
theorem EncodeFields.sendFrame (c : FrameClass) : EncodeFields.Statement (.sendFrame c) := word_fields _ _
theorem EncodeFields.xferStart : EncodeFields.Statement .xferStart := word_fields _ _
theorem EncodeFields.xferNext : EncodeFields.Statement .xferNext := word_fields _ _
theorem EncodeFields.decode : EncodeFields.Statement .decode := word_fields _ _
theorem EncodeFields.clear : EncodeFields.Statement .clear := word_fields _ _
theorem EncodeFields.sreset : EncodeFields.Statement .sreset := word_fields _ _

end Sys2Proof.Laws
end

