-- ==== Sys2Proof/Laws/Step.lean ====
section
/-! SUPPORT. What one step can do, said once: `Move s t` lists every way the block goes from `s`, the state with its
event taken, to `t`; `step_moves` says that a step that answers a next state is one of them. Invariants follow by cases
on `Move`. -/

namespace Sys2Proof.Machine

/-- One move of the block. -/
inductive Move (s : State) : State → Prop where
  | same : Move s s
  | overrun : Move s (setOvr s)
  | acceptError (code : ErrCode) (op : Byte) (hs : s.state = .idle ∨ s.state = .waitChunk) (hc : code ≠ .none) :
      Move s (raiseError code 0 0 0 op s)
  | crc (x : Half) (hb : s.busy = false) : Move s { s with acc := x }
  | decode (hb : s.busy = false) : Move s (decodeRxf s)
  | send (p : List Byte) (c : FrameClass) (op : Byte) (hs : s.state = .idle) (hp : p.length ≤ 1027) :
      Move s (build p c op s)
  | start (hs : s.state = .idle) : Move s (build (headPayload s.len s.addr) .head 0x20 (startTransfer s))
  | chunk (hs : s.state = .waitChunk) (hn : s.chunkLen.toNat = chunkNeed s) :
      Move s (build (dataPayload s.seq (s.chunkBytes s.chunkLen.toNat)) .data 0x21 s)
  | clear (hs : s.state = .idle ∨ s.state = .error) : Move s (clearError s)
  | reset : Move s (resetBlock s)
  | read (off : Offset) : Move s (onHostRead off s)
  | store (off : Offset) (v : Word) : Move s (hostStore off v s)
  | flush (ok : Bool) (hs : s.state = .flush) : Move s (flushStep ok s)
  | tx (ok : Bool) (hs : s.state = .tx) : Move s (txStep ok s)
  | waitAck (r : ReadOutcome) (hs : s.state = .waitAck) : Move s (waitAckStep r s)
  | settle (hs : s.state = .settle) : Move s (settleStep s)

theorem move_of_accept {g : CmdGroup} {op : Byte} {f : Bool} {e s : State}
    (h : s.busy = false → accepts g s.state = true → f = false → Move s e) : Move s (accept g op f e s) := by
  rcases accept_cases g op f e s with h1 | ⟨hs, _, h1⟩ | ⟨hb, ha, hf, h1⟩
  · rw [h1]; exact .overrun
  · rw [h1]; exact .acceptError _ _ hs (by simp)
  · rw [h1]; exact h hb ha hf

theorem idle_of_accepts_link {s : State} (h : accepts .link s.state = true) : s.state = .idle := by
  cases hs : s.state <;> simp [accepts, hs] at h ⊢

theorem waitChunk_of_accepts_next {s : State} (h : accepts .next s.state = true) : s.state = .waitChunk := by
  cases hs : s.state <;> simp [accepts, hs] at h ⊢

theorem clearable_of_accepts_clear {s : State} (h : accepts .clear s.state = true) :
    s.state = .idle ∨ s.state = .error := by
  cases hs : s.state <;> simp [accepts, hs] at h ⊢

theorem chunkLen_le_of_ok {s : State} (h : chunkTooLong s = false) : s.chunkLen.toNat ≤ 1024 := by
  have := of_decide_eq_false h
  simp only [Config.maxChunk] at this
  omega

theorem chunkLen_eq_of_ok {s : State} (h : chunkMismatch s = false) : s.chunkLen.toNat = chunkNeed s := by
  simpa [chunkMismatch] using h

/-- Every command is a move (R127). -/
theorem move_of_exec {i : Instr} {s t : State} (h : exec i s = .next t) : Move s t := by
  cases i with
  | nop => cases h; exact move_of_accept fun _ _ _ => .same
  | crcInit => cases h; exact move_of_accept fun hb _ _ => .crc _ hb
  | crcByte b => cases h; exact move_of_accept fun hb _ _ => .crc _ hb
  | crcFinish => cases h; exact move_of_accept fun hb _ _ => .crc _ hb
  | crcBuf => cases h; exact move_of_accept fun hb _ _ => .crc _ hb
  | decode => cases h; exact move_of_accept fun hb _ _ => .decode hb
  | sendHead => cases h; exact move_of_accept fun _ ha _ => .send _ _ _ (idle_of_accepts_link ha) (by simp)
  | sendData n =>
    cases h
    refine move_of_accept fun _ ha hf => .send _ _ _ (idle_of_accepts_link ha) ?_
    have := chunkLen_le_of_ok hf
    simp; omega
  | sendTail n => cases h; exact move_of_accept fun _ ha _ => .send _ _ _ (idle_of_accepts_link ha) (by simp)
  | sendFrame c =>
    cases h
    refine move_of_accept fun _ ha hf => .send _ _ _ (idle_of_accepts_link ha) ?_
    have := chunkLen_le_of_ok hf
    simp; omega
  | xferStart => cases h; exact move_of_accept fun _ ha _ => .start (idle_of_accepts_link ha)
  | xferNext =>
    cases h
    exact move_of_accept fun _ ha hf => .chunk (waitChunk_of_accepts_next ha) (chunkLen_eq_of_ok hf)
  | clear => cases h; exact move_of_accept fun _ ha _ => .clear (clearable_of_accepts_clear ha)
  | sreset => cases h; exact .reset

theorem move_of_illegal (op : Byte) (s : State) : Move s (illegalCommand op s) := by
  unfold illegalCommand acceptanceError
  split
  · rename_i h; exact .acceptError _ _ (.inl h) (by simp)
  · rename_i h; exact .acceptError _ _ (.inr h) (by simp)
  all_goals exact .overrun

/-- Every engine step is a move (R134). -/
theorem move_of_engineStep {d : Draw} {s t : State} (h : engineStep d s = .next t) : Move s t := by
  unfold engineStep at h
  split at h <;> cases h
  all_goals rename_i hs
  · exact .flush true hs
  · exact .flush false hs
  · exact .tx true hs
  · exact .tx false hs
  · exact .waitAck _ hs
  · exact .waitAck _ hs
  · exact .waitAck _ hs
  · exact .settle hs

theorem move_of_event {e : Event} {s t : State} (h : onEvent e s = .next t) : Move s t := by
  cases e with
  | hostRead off => cases h; exact .read off
  | hostWrite off v =>
    simp only [onEvent, onHostWrite] at h
    split at h
    · unfold onCmdWrite at h
      split at h
      · exact move_of_exec h
      · cases h; exact move_of_illegal _ _
    · cases h; exact .store off v
  | engineStep d => exact move_of_engineStep h
  | resetInput => cases h; exact .reset

/-- Everything a step can do: it takes an event, counts a free draw, or does nothing, and then makes one move. -/
theorem step_moves {s t : State} (h : step s = .next t) :
    ∃ u, Move u t ∧ ((∃ es, u = s.withInputs es) ∨ u = countDraw s ∨ u = s) := by
  unfold step nextEvent at h
  split at h
  · exact ⟨_, move_of_event h, .inl ⟨_, rfl⟩⟩
  · unfold unscheduled at h
    split at h
    · exact ⟨_, move_of_engineStep h, .inr (.inl rfl)⟩
    · cases h; exact ⟨_, .same, .inr (.inr rfl)⟩

/-- A host store changes registers or buffer bytes outside `TXF`; everything the engine works from stays (R132). -/
theorem hostStore_frame (off : Offset) (v : Word) (s : State) :
    ∃ c d o l a k t r m, hostStore off v s =
      { s with ctrl := c, done := d, ovr := o, len := l, addr := a, chunkLen := k, timeouts := t, rxfLen := r, mem := m } ∧
      (m = s.mem ∨ ∃ base bs, m = s.mem.write base bs ∧
        ((0x400 ≤ base ∧ base + bs.length ≤ 0x800) ∨ (0x800 ≤ base ∧ base + bs.length ≤ 0xC05))) := by
  have hsame : ∃ c d o l a k t r m, s =
      { s with ctrl := c, done := d, ovr := o, len := l, addr := a, chunkLen := k, timeouts := t, rxfLen := r, mem := m } ∧
      (m = s.mem ∨ ∃ base bs, m = s.mem.write base bs ∧
        ((0x400 ≤ base ∧ base + bs.length ≤ 0x800) ∨ (0x800 ≤ base ∧ base + bs.length ≤ 0xC05))) :=
    ⟨_, _, _, _, _, _, _, _, _, rfl, .inl rfl⟩
  unfold hostStore
  split
  · rename_i r _
    cases r
    case ctrl => exact ⟨_, _, _, _, _, _, _, _, _, rfl, .inl rfl⟩
    case status => exact ⟨_, _, _, _, _, _, _, _, _, rfl, .inl rfl⟩
    case len => exact ⟨_, _, _, _, _, _, _, _, _, rfl, .inl rfl⟩
    case addr => exact ⟨_, _, _, _, _, _, _, _, _, rfl, .inl rfl⟩
    case chunkLen => exact ⟨_, _, _, _, _, _, _, _, _, rfl, .inl rfl⟩
    case toHead => exact ⟨_, _, _, _, _, _, _, _, _, rfl, .inl rfl⟩
    case toData => exact ⟨_, _, _, _, _, _, _, _, _, rfl, .inl rfl⟩
    case toTail => exact ⟨_, _, _, _, _, _, _, _, _, rfl, .inl rfl⟩
    case toRaw => exact ⟨_, _, _, _, _, _, _, _, _, rfl, .inl rfl⟩
    case settle => exact ⟨_, _, _, _, _, _, _, _, _, rfl, .inl rfl⟩
    case rxfLen => exact ⟨_, _, _, _, _, _, _, _, _, rfl, .inl rfl⟩
    all_goals exact hsame
  · unfold storeWord
    split
    · rename_i hc
      refine ⟨_, _, _, _, _, _, _, _, _, rfl, .inr ⟨_, _, rfl, .inl ?_⟩⟩
      rw [contains_iff] at hc
      simp only [chunkRegion] at hc
      simp only [List.length_take, length_le32, chunkRegion]
      omega
    · split
      · rename_i hc
        refine ⟨_, _, _, _, _, _, _, _, _, rfl, .inr ⟨_, _, rfl, .inr ?_⟩⟩
        rw [contains_iff] at hc
        simp only [rxfRegion] at hc
        simp only [List.length_take, length_le32, rxfRegion]
        omega
      · exact hsame

end Sys2Proof.Machine
end

