-- ==== Sys2Proof/Laws/Window.lean ====
section
/-! SUPPORT. The host window: no register stands at 0x070 or above, and what a store into a buffer and a read of a window
byte can do, said once (20_memory.md R42, R43). -/

namespace Sys2Proof.Machine

/-- No register stands at word address 0x070 or above (R42). -/
theorem regAt_none {a : Nat} (h : 0x070 ≤ a) : regAt a = none := by
  unfold regAt
  rw [List.find?_eq_none.2]
  · rfl
  · intro e he
    have below : ∀ e ∈ regMap, e.1 < 0x070 := by decide
    have := below e he
    simp only [beq_iff_eq]
    omega

theorem getElem_le32 (v : Word) (j : Nat) (hj : j < (le32 v).length) : (le32 v)[j] = v.extractLsb' (8 * j) 8 := by
  match j, hj with
  | 0, _ => rfl
  | 1, _ => rfl
  | 2, _ => rfl
  | 3, _ => rfl

/-- A store into a region changes memory alone: the `n` bytes of the word that lie in the region, lowest first (R43). -/
theorem storeIn_reads {r : Region} {a n : Nat} (v : Word) (s : State) (hn : min (r.base + r.size - a) 4 = n) :
    storeIn r a v s = { s with mem := (storeIn r a v s).mem } ∧
    (∀ j, j < n → (storeIn r a v s).mem.read (a + j) = v.extractLsb' (8 * j) 8) ∧
    ∀ x, (x < a ∨ a + n ≤ x) → (storeIn r a v s).mem.read x = s.mem.read x := by
  have hl : ((le32 v).take (r.base + r.size - a)).length = n := by rw [List.length_take, length_le32]; exact hn
  refine ⟨rfl, fun j hj => ?_, fun x hx => ?_⟩
  · unfold storeIn
    rw [read_write_inside _ _ _ _ (by rw [hl]; exact hj), List.getElem_take, getElem_le32]
  · unfold storeIn
    exact read_write_outside _ _ _ _ (by rw [hl]; exact hx)

theorem windowByte_inside {s : State} {a : Nat} (h : inBuffer a = true) : windowByte s a = s.mem.read a := if_pos h

theorem windowByte_outside {s : State} {a : Nat} (h : inBuffer a = false) : windowByte s a = 0x00 :=
  if_neg (by simp [h])

end Sys2Proof.Machine
end

