-- ==== Sys2Proof/Tests/Slice0.lean ====
section
/-! SUPPORT. The model's own tests. Expected values are those of spec/95_test_vectors.md (V<n>) or of the rule named,
never the model's own answer. First the words and their decoding, then at most two one-step tests per command and a few
of the engine and the window, then, for each statement that has hypotheses, a witness that meets them. -/

namespace Sys2Proof.Tests

open Sys2Proof.Machine Sys2Proof.Safety

/-- What `f` shows of the next state; `none` where there is none. -/
def shows {α : Type} (o : Host.Outcome State Fault Refusal) (f : State → α) : Option α :=
  match o with
  | .next t => some (f t)
  | .fault _ => none
  | .refused _ => none

/-- The reset state in engine state `st`, with events to come. -/
def inState (st : EngineState) (es : List Event) : State :=
  { State.reset with state := st, env := { Env.initial with inputs := es } }

/-- The reset state with `bs` in `CHUNK` and `CHUNK_LEN` their number. -/
def withChunk (bs : List Byte) : State :=
  { State.reset with mem := State.reset.mem.write 0x400 bs, chunkLen := BitVec.ofNat 11 bs.length }

/-- The reset state with `bs` in `RXF`, `RXF_LEN` their number, and the tracker `k`. -/
def withRxf (bs : List Byte) (k : Tracker) : State :=
  { State.reset with
    mem := State.reset.mem.write 0x800 bs
    rxfLen := BitVec.ofNat 11 bs.length
    tracker := k }

/-- A handshake waiting for its read, of class `c`, in transfer phase `x`, with events to come. -/
def waiting (c : FrameClass) (x : XferPhase) (es : List Event) : State :=
  { inState .waitAck es with cls := c, xphase := x }

/-! ### Words (R58 to R61) -/

/-- RSV must be zero (V101). -/
theorem test_legal_refuses_rsv : legal 0x0010003F = false := by decide

/-- A reserved opcode (V100). -/
theorem test_legal_refuses_opcode : legal 0x00000105 = false := by decide

/-- ARG must be zero for `CRC.INIT` (V102). -/
theorem test_legal_refuses_arg : legal 0x00000101 = false := by decide

/-- ARG[7:2] must be zero for `SEND.FRAME` (V28). -/
theorem test_legal_refuses_class : legal 0x00000413 = false := by decide

theorem test_decode_nop : decode 0x00000000 = some .nop := by decide
theorem test_decode_crcInit : decode 0x00000001 = some .crcInit := by decide
theorem test_decode_crcByte : decode 0x0000FF02 = some (.crcByte 0xFF) := by decide
theorem test_decode_crcFinish : decode 0x00000003 = some .crcFinish := by decide
theorem test_decode_crcBuf : decode 0x00000004 = some .crcBuf := by decide
theorem test_decode_sendHead : decode 0x00000010 = some .sendHead := by decide
theorem test_decode_sendData : decode 0x00008011 = some (.sendData 0x80) := by decide
theorem test_decode_sendTail : decode 0x00000712 = some (.sendTail 0x07) := by decide
theorem test_decode_sendFrame : decode 0x00000113 = some (.sendFrame .data) := by decide
theorem test_decode_xferStart : decode 0x00000020 = some .xferStart := by decide
theorem test_decode_xferNext : decode 0x00000021 = some .xferNext := by decide
theorem test_decode_decode : decode 0x00000030 = some .decode := by decide
theorem test_decode_clear : decode 0x0000003E = some .clear := by decide
theorem test_decode_sreset : decode 0x0000003F = some .sreset := by decide
theorem test_encode_sendFrame : encode (.sendFrame .raw) = 0x00000313 := by decide
theorem test_table_word : decodeTableWord 16 0x0302 = some (.crcByte 0x03) := by decide

/-! ### CRC commands -/

/-- V1, V3, V4, V7. -/
theorem test_crc16_short : [crc16 [], crc16 [0x01], crc16 [0x41], crc16 [0xFF]] = [0x0000, 0x1021, 0x58E5, 0x1EF0] := by
  decide

/-- V109: `NOP` in WAIT_CHUNK. -/
theorem test_nop : shows (exec .nop (inState .waitChunk [])) (fun t => (t.state, t.ovr)) = some (.waitChunk, false) := by
  decide

/-- V111: `CRC.INIT` runs in ERROR. -/
theorem test_crcInit : shows (exec .crcInit { inState .error [] with acc := 0xBEEF }) (fun t => (t.acc, t.ovr)) =
    some (0x0000, false) := by decide

/-- V15. -/
theorem test_crcByte : shows (exec (.crcByte 0x33) { State.reset with acc := 0x3132 }) (·.acc) = some 0x1441 := by decide

/-- V15: a second `CRC.FINISH` is no repeat. -/
theorem test_crcFinish : shows (exec .crcFinish { State.reset with acc := 0x31C3 }) (·.acc) = some 0xDF8B := by decide

/-- V16. -/
theorem test_crcBuf : shows (exec .crcBuf { withChunk [0x01, 0x02, 0x03, 0x04, 0x05] with state := .waitChunk })
    (fun t => (t.acc, t.state)) = some (0x8208, .waitChunk) := by decide +kernel

/-- V16: 1025 bytes in IDLE. -/
theorem test_crcBuf_too_long : shows (exec .crcBuf { State.reset with chunkLen := 1025 })
    (fun t => (statusWord t, errInfoWord t)) = some (0x00004604, 0x04000000) := by decide

/-! ### Frames -/

/-- V20. -/
theorem test_sendHead : shows (exec .sendHead { State.reset with len := 0x00000400, addr := 0x00100000 })
    (fun t => (t.txFrame, t.acc, t.curOp)) =
      some ([0xFE, 0x00, 0xFF, 0x01, 0x00, 0x00, 0x04, 0x00, 0x00, 0x10, 0x00, 0x00, 0xFD, 0x62], 0xFD62, 0x10) := by
  decide +kernel

/-- V33. -/
theorem test_sendData : shows (exec (.sendData 0x02) (withChunk [0x01, 0x02, 0x03, 0x04]))
    (fun t => (t.txFrame, t.txfLen)) =
      some ([0xDA, 0x02, 0xFD, 0x01, 0x02, 0x03, 0x04, 0x2A, 0x4F], 9) := by decide +kernel

/-- V47. -/
theorem test_sendTail : shows (exec (.sendTail 0x7F) State.reset) (fun t => (t.txFrame, t.state)) =
    some ([0xED, 0x7F, 0x80, 0x6B, 0x8F], .flush) := by decide +kernel

/-- V110: refused in WAIT_CHUNK. -/
theorem test_sendTail_refused : shows (exec (.sendTail 0x7F) (inState .waitChunk [])) (fun t => (t.ovr, t.state)) =
    some (true, .waitChunk) := by decide

/-- V27: an empty payload. -/
theorem test_sendFrame : shows (exec (.sendFrame .data) State.reset) (fun t => (t.txFrame, t.cls)) =
    some ([0x00, 0x00], .data) := by decide +kernel

/-- V64: the counters; V22: the frame's trailer. -/
theorem test_xferStart : shows (exec .xferStart { State.reset with len := 0x00000401, addr := 0x16800000 })
    (fun t => (t.remain, t.progTotal, t.xphase, t.acc)) = some (1025, 2, .head, 0x1334) := by decide +kernel

/-- V37. -/
theorem test_xferNext : shows (exec .xferNext { withChunk [0x11, 0x22, 0x33] with
      state := .waitChunk, xphase := .data, remain := 3 })
    (fun t => (t.txFrame, t.remain)) = some ([0xDA, 0x01, 0xFE, 0x11, 0x22, 0x33, 0xA7, 0x17], 3) := by decide +kernel

/-- V73: a chunk that is too long aborts the transfer. -/
theorem test_xferNext_mismatch : shows (exec .xferNext { inState .waitChunk [] with
      xphase := .data, remain := 1, chunkLen := 1000, cls := .data, rxv := true, lastRx := 0xAA })
    (fun t => (statusWord t, errInfoWord t)) = some (0x09AA4634, 0x21000000) := by decide

/-! ### The decoder and the control commands -/

/-- V90. -/
theorem test_decode_ok : shows (exec .decode (withRxf [0xDA, 0x01, 0xFE, 0x41, 0x9F, 0xB3] { exp := 1, inXfer := true, cnt := 0 }))
    (fun t => (rxInfoWord t, rxCrcWord t, t.tracker)) =
      some (0x00010102, 0x9FB39FB3, { exp := 2, inXfer := true, cnt := 1 }) := by decide +kernel

/-- V87. -/
theorem test_decode_bad_complement : shows
    (exec .decode (withRxf [0xDA, 0x01, 0xFF, 0x41, 0xAC, 0x82] { exp := 1, inXfer := true, cnt := 0 }))
    (fun t => (rxInfoWord t, rxCrcWord t, t.tracker.exp)) = some (0x00000042, 0xAC82AC82, 1) := by decide +kernel

/-- Program 3: `CLEAR` in ERROR keeps `RXV`, `LAST_RX` and CLASS. -/
theorem test_clear : shows (exec .clear { inState .error [] with
      errCode := .protocolViolation, cls := .data, rxv := true, lastRx := 0x55 }) statusWord = some 0x01550010 := by decide

/-- V107: refused in WAIT_CHUNK. -/
theorem test_clear_refused : shows (exec .clear (inState .waitChunk [])) (fun t => (t.ovr, t.state)) =
    some (true, .waitChunk) := by decide

/-- V105, from WAIT_ACK. -/
theorem test_sreset : shows (exec .sreset { inState .waitAck [] with ovr := true, seq := 9 })
    (fun t => (statusWord t, ctrlWord t, readReg .seq t, readReg .rxInfo t)) =
      some (0x00000000, 0x00000002, 1, 0x000000F0) := by decide

/-! ### The engine and the window -/

/-- V55: the WAIT_ACK step on a wrong byte. -/
theorem test_waitAck_wrong_byte : shows (step { waiting .data .none [.engineStep (.readByte 0x55)] with curOp := 0x11 })
    (fun t => (statusWord t, errInfoWord t)) = some (0x01551614, 0x110155AA) := by decide

/-- V54: a timeout of a data frame with SDOK 0. -/
theorem test_waitAck_timeout : shows
    (step { waiting .data .none [.engineStep .readTimeout] with
      curOp := 0x11, ctrl := { tailOff := false, sdOk := false, ieDone := false, ieErr := false } })
    (fun t => (t.errCode, errInfoWord t)) = some (.ackTimeout, 0x110100AA) := by decide

/-- R29: the FLUSH step of a RAW frame finds `TO_RAW` at 1000. -/
theorem test_flush_holds_timeout : shows (step { inState .flush [.engineStep .flushOk] with cls := .raw })
    (fun t => (t.state, t.startTimeout)) = some (.tx, 1000) := by decide

/-- R93: with `TO_TAIL` unchanged since the FLUSH step, the read asks for its 10 ms. -/
theorem test_ackTimeout : ackTimeout { waiting .tail .none [] with startTimeout := 10 } = 10 :=
  ackTimeout_eq_of_unchanged rfl

/-- V58: a failed write. -/
theorem test_tx_error : shows (step { inState .tx [.engineStep .writeErr] with cls := .tail, curOp := 0x12 })
    (fun t => (statusWord t, errInfoWord t)) = some (0x02002604, 0x12020000) := by decide +kernel

/-- V114: little-endian packing. -/
theorem test_chunk_packing : (hostStore 0x400 0x44332211 State.reset).chunkBytes 4 = [0x11, 0x22, 0x33, 0x44] := by
  decide +kernel

/-- Program 3: `RD ERRINFO` returns 0x110155AA. -/
theorem test_read_errInfo : hostLoad 0x06C
    { State.reset with errInfo := { exp := 0xAA, rx := 0x55, cls := 1, op := 0x11 } } = 0x110155AA := by decide

/-- V114: a read at 0x00D reads `CRC`. -/
theorem test_low_bits_ignored : hostLoad 0x00D { State.reset with acc := 0xBEEF } = 0x0000BEEF := by decide

/-- A scheduled engine step in IDLE is undefined (log 3). -/
theorem test_undefined_event : shows (step (inState .idle [.engineStep .noDraw])) (·.state) = none := by decide

/-- What the host's fetch asks for: the very next step runs the command of the row. -/
theorem test_fetch : shows (step (State.reset.withFetchWord 16 0x3302)) (·.acc) = some 0x0033 := by decide

/-! ### Witnesses: concrete states and operands that meet the hypotheses of the statements -/

theorem witness_EncodingIsTheOnlyWordOfItsCommand : decode 0x00000313 = some (.sendFrame .raw) := by decide

theorem witness_StepRunsTheDecodedCommand :
    (inState .idle [.hostWrite 0x007 0x00003302]).env.inputs = [.hostWrite 0x007 0x00003302] ∧
    (0x007 : Offset) &&& ~~~3 = 0x004 ∧ decode 0x00003302 = some (.crcByte 0x33) := by decide

theorem witness_IllegalWordRaisesOrOverruns :
    ((0x004 : Offset) &&& ~~~3 = 0x004 ∧ legal 0x00000105 = false) ∧
    ((0x0010003F : Word).extractLsb' 0 8 = 0x3F ∧ (0x0010003F : Word) ≠ 0x0000003F) ∧
    ∀ st ∈ [EngineState.idle, .waitChunk, .error, .flush],
      (inState st [.hostWrite 0x004 0x00000105]).env.inputs = [.hostWrite 0x004 0x00000105] ∧
      (inState st [.hostWrite 0x004 0x00000105]).state = st := by decide

theorem witness_BusyBlockRefusesEveryWord :
    ((0x004 : Offset) &&& ~~~3 = 0x004 ∧ (0x0000003E : Word) ≠ 0x0000003F) ∧
    ∀ st ∈ [EngineState.flush, .tx, .waitAck, .settle],
      (inState st [.hostWrite 0x004 0x0000003E]).env.inputs = [.hostWrite 0x004 0x0000003E] ∧
      (inState st [.hostWrite 0x004 0x0000003E]).state ∈ [EngineState.flush, .tx, .waitAck, .settle] := by decide

theorem witness_RefusedCommandOnlySetsOverrun :
    (inState .flush []).state ∉ acceptingStates .nop ∧ (inState .waitChunk []).state ∉ acceptingStates .sendHead ∧
    (inState .idle []).state ∉ acceptingStates .xferNext ∧ (inState .waitChunk []).state ∉ acceptingStates .clear := by
  decide

theorem witness_CrcDetectsOneByteChange : (0x00 : Byte) ≠ 0x80 := by decide

theorem witness_CrcCommandsWriteOnlyAcc :
    ∀ st ∈ [EngineState.idle, .waitChunk, .error],
      { inState st [] with chunkLen := 1024 }.state ∈ [EngineState.idle, .waitChunk, .error] ∧
      { inState st [] with chunkLen := 1024 }.chunkLen.toNat ≤ 1024 := by decide

theorem witness_CrcByteSequenceComputesCrc :
    (inState .error []).state ∈ [EngineState.idle, .waitChunk, .error] := by decide

theorem witness_ChunkLengthFaults :
    (∀ st ∈ [EngineState.idle, .waitChunk, .error],
      1024 < { inState st [] with chunkLen := 1025 }.chunkLen.toNat ∧
      { inState st [] with chunkLen := 1025 }.state = st) ∧
    (∃ t, exec .crcBuf { inState .idle [] with chunkLen := 1025 } = .next t ∧ t.state = .error) ∧
    { inState .waitChunk [] with chunkLen := 1023, remain := 1024 }.state = .waitChunk ∧
    { inState .waitChunk [] with chunkLen := 1023, remain := 1024 }.chunkLen.toNat ≠
      min 1024 { inState .waitChunk [] with chunkLen := 1023, remain := 1024 }.remain.toNat :=
  ⟨by decide, ⟨_, rfl, by decide⟩, by decide, by decide⟩

theorem witness_SendHeadBuildsHeadFrame : State.reset.state = .idle := by decide

theorem witness_SendDataBuildsDataFrame :
    { State.reset with chunkLen := 1024 }.state = .idle ∧ { State.reset with chunkLen := 1024 }.chunkLen.toNat ≤ 1024 := by
  decide

theorem witness_SendTailBuildsTailFrame : { State.reset with done := true }.state = .idle := by decide

theorem witness_SendFrameBuildsAnyPayload :
    State.reset.state = .idle ∧ State.reset.chunkLen.toNat ≤ 1024 := by decide

theorem witness_XferStartBuildsHeadFrame : { State.reset with len := 1025 }.state = .idle := by decide

theorem witness_XferNextBuildsDataFrame :
    { inState .waitChunk [] with chunkLen := 1024, remain := 1025 }.state = .waitChunk ∧
    { inState .waitChunk [] with chunkLen := 1024, remain := 1025 }.chunkLen.toNat =
      min 1024 { inState .waitChunk [] with chunkLen := 1024, remain := 1025 }.remain.toNat := by decide

theorem witness_FlushStepOutcomes :
    ∀ d ∈ [Draw.flushOk, .flushErr],
      (inState .flush [.engineStep d]).state = .flush ∧
      (inState .flush [.engineStep d]).env.inputs = [.engineStep d] := by decide

theorem witness_TxStepOutcomes :
    ∀ d ∈ [Draw.writeOk, .writeErr],
      (inState .tx [.engineStep d]).state = .tx ∧ (inState .tx [.engineStep d]).env.inputs = [.engineStep d] := by decide

theorem witness_WaitAckReadsOnceWithTheClassTimeout :
    ∀ r ∈ [ReadOutcome.byte 0xAA, .timeout, .err],
      ((waiting .raw .none [.engineStep (readDraw r)]).state = .waitAck ∧
        (waiting .raw .none [.engineStep (readDraw r)]).env.inputs = [.engineStep (readDraw r)]) ∧
      ∃ t, (inState .tx [.hostWrite 0x03C 0x00000005]).state ≠ .flush ∧
        step (inState .tx [.hostWrite 0x03C 0x00000005]) = .next t :=
  fun r h => ⟨⟨rfl, rfl⟩, _, by decide, rfl⟩

theorem witness_AckByteNeverErrsAndOtherBytesAlwaysDo :
    ∀ b ∈ [(0xAA : Byte), 0xAB, 0x00],
      (waiting .head .none [.engineStep (.readByte b)]).state = .waitAck ∧
      (waiting .head .none [.engineStep (.readByte b)]).env.inputs = [.engineStep (.readByte b)] := by decide

/-- The state of the third clause below. -/
def strictData : State :=
  { waiting .data .none [.engineStep .readTimeout] with
    ctrl := { tailOff := false, sdOk := false, ieDone := false, ieErr := false } }

theorem witness_FailedHandshakeRecordsItsError :
    ((0xAB : Byte) ≠ 0xAA ∧ (waiting .tail .none [.engineStep (.readByte 0xAB)]).state = .waitAck ∧
      (waiting .tail .none [.engineStep (.readByte 0xAB)]).env.inputs = [.engineStep (.readByte 0xAB)]) ∧
    ((waiting .raw .none [.engineStep .readErr]).state = .waitAck ∧
      (waiting .raw .none [.engineStep .readErr]).env.inputs = [.engineStep .readErr]) ∧
    strictData.state = .waitAck ∧ strictData.cls = .data ∧ strictData.ctrl.sdOk = false ∧
      strictData.env.inputs = [.engineStep .readTimeout] := by decide

/-- A state in which the next event ends the handshake in success by an ACK byte. -/
theorem succeeds_by_ack (c : FrameClass) (x : XferPhase) :
    ∃ u, HandshakeSucceeds (waiting c x [.engineStep (.readByte 0xAA)]) [] u := ⟨_, .inl ⟨rfl, rfl⟩⟩

theorem witness_SingleFrameSucceeds :
    (waiting .raw .none [.engineStep .readTimeout]).state = .waitAck ∧
    (waiting .raw .none [.engineStep .readTimeout]).xphase = .none ∧
    ∃ u, HandshakeSucceeds (waiting .raw .none [.engineStep .readTimeout]) [] u :=
  ⟨rfl, rfl, _, .inr ⟨rfl, .inl (by decide), rfl⟩⟩

theorem witness_HeadSuccessContinuesTheTransfer :
    ∀ r ∈ [(0 : Word), 1], ∃ u,
      { waiting .head .head [.engineStep .readTimeout] with remain := r }.state = .waitAck ∧
      { waiting .head .head [.engineStep .readTimeout] with remain := r }.xphase = .head ∧
      HandshakeSucceeds { waiting .head .head [.engineStep .readTimeout] with remain := r } [] u :=
  fun _ _ => ⟨_, rfl, rfl, .inr ⟨rfl, .inl (by simp [waiting]), rfl⟩⟩

/-- A data frame of 1024 bytes in flight, of a transfer with `r` bytes left. -/
def dataInFlight (r : Word) : State :=
  { waiting .data .data [.engineStep .readTimeout] with remain := r, txfLen := 1029, progTotal := 2 }

theorem witness_DataSuccessCountsAndContinues :
    (∀ r ∈ [(1024 : Word), 1025], ∃ u,
      (dataInFlight r).state = .waitAck ∧ (dataInFlight r).xphase = .data ∧ HandshakeSucceeds (dataInFlight r) [] u) ∧
    (1024 : Word) - (BitVec.setWidth 32 (dataInFlight 1024).txfLen - 5) = 0 ∧
    (1025 : Word) - (BitVec.setWidth 32 (dataInFlight 1025).txfLen - 5) ≠ 0 :=
  ⟨fun _ _ => ⟨_, rfl, rfl, .inr ⟨rfl, .inr rfl, rfl⟩⟩, by decide, by decide⟩

theorem witness_TailSuccessStartsTheSettleDelay :
    (waiting .tail .tail [.engineStep (.readByte 0xAA)]).state = .waitAck ∧
    (waiting .tail .tail [.engineStep (.readByte 0xAA)]).xphase = .tail ∧
    ∃ u, HandshakeSucceeds (waiting .tail .tail [.engineStep (.readByte 0xAA)]) [] u :=
  ⟨rfl, rfl, succeeds_by_ack _ _⟩

theorem witness_SettleStepEndsTheTransfer :
    (inState .settle [.engineStep .noDraw]).state = .settle ∧
    (inState .settle [.engineStep .noDraw]).env.inputs = [.engineStep .noDraw] := by decide

/-- WAIT_CHUNK of a one-byte transfer, with the round of its data frame to come. -/
def roundToCome : State :=
  { inState .waitChunk [.hostWrite 0x004 0x00000021, .engineStep .flushOk, .engineStep .writeOk,
      .engineStep (.readByte 0xAA)] with
    xphase := .data, chunkLen := 1, remain := 1, progTotal := 1 }

theorem witness_DataFrameRoundSendsOneChunk :
    roundToCome.state = .waitChunk ∧ roundToCome.xphase = .data ∧
    roundToCome.chunkLen.toNat = min 1024 roundToCome.remain.toNat ∧ 0 < roundToCome.remain.toNat ∧
    roundToCome.env.inputs = .hostWrite 0x004 0x00000021 :: .engineStep .flushOk :: .engineStep .writeOk ::
      .engineStep (.readByte 0xAA) :: [] := by decide

/-- `roundToCome` meets the invariants. -/
theorem roundToCome_controlInv : ControlInv roundToCome where
  memWf := by decide
  memInBuffers := by decide
  idleNoTransfer := by decide
  waitChunkData := by decide
  settleTail := by decide
  errCodeIff := by decide
  errInfoZero := by decide
  txfLenBound := by decide

theorem roundToCome_transferLaw : TransferLaw 1 roundToCome where
  counters := by decide
  headFirst := by decide
  dataLeft := by decide
  inFlight := by decide
  tailCounts := by decide

theorem witness_StepKeepsTheControlInvariant :
    ControlInv roundToCome ∧ ∃ t, step roundToCome = .next t ∧ t.state = .flush :=
  ⟨roundToCome_controlInv, _, rfl, by decide⟩

theorem witness_StepKeepsTheTransferLaw :
    ControlInv roundToCome ∧ roundToCome.xphase ≠ .none ∧ TransferLaw 1 roundToCome ∧ ∃ t, step roundToCome = .next t :=
  ⟨roundToCome_controlInv, by decide, roundToCome_transferLaw, _, rfl⟩

theorem witness_XferStartEstablishesTheTransferLaw :
    { State.reset with len := 1025 }.state = .idle ∧ ∃ t, exec .xferStart { State.reset with len := 1025 } = .next t :=
  ⟨rfl, _, rfl⟩

theorem witness_StepKeepsFramesSound :
    FramesSound roundToCome ∧ ∃ t, step roundToCome = .next t :=
  ⟨{ inTxf := (by intro h; cases h), written := (by intro f ok h; cases h) }, _, rfl⟩

theorem witness_StepKeepsTheWireOrder :
    WireOrder roundToCome ∧ ∃ t, step roundToCome = .next t :=
  ⟨⟨by decide, by decide, by intro h; cases h⟩, _, rfl⟩

theorem witness_UnscheduledEngineStepsOrRests :
    ∀ st ∈ [EngineState.idle, .waitChunk, .error, .flush, .tx, .waitAck, .settle],
      (inState st []).env.inputs = [] ∧ (inState st []).state = st := by decide

theorem witness_ErrorStandsUntilCleared :
    (inState .error [.hostWrite 0x004 0x00000105]).state = .error ∧
    ∃ t, step (inState .error [.hostWrite 0x004 0x00000105]) = .next t := ⟨rfl, _, rfl⟩

/-- The tracker after reset. -/
def closed : Tracker := { exp := 1, inXfer := false, cnt := 0 }

/-- The tracker in a transfer whose first data frame is due. -/
def opened : Tracker := { exp := 1, inXfer := true, cnt := 0 }

/-- V20's frame without its last byte (V85). -/
def shortHead : List Byte := [0xFE, 0x00, 0xFF, 0x01, 0x00, 0x00, 0x04, 0x00, 0x00, 0x10, 0x00, 0x00, 0xFD]

theorem witness_DecodeRejectsBadDelimitersAndLengths :
    State.reset.state ∈ [EngineState.idle, .waitChunk, .error] ∧
    1029 < { State.reset with rxfLen := 1030 }.rxfLen.toNat ∧
    ((withRxf [0xFE, 0x00, 0xFF] closed).rxfLen.toNat ≤ 1029 ∧ ¬ headDelimited (withRxf [0xFE, 0x00, 0xFF] closed) ∧
      rxfByte (withRxf [0xFE, 0x00, 0xFF] closed) 0 ≠ 0xDA ∧ rxfByte (withRxf [0xFE, 0x00, 0xFF] closed) 0 ≠ 0xED) ∧
    State.reset.rxfLen.toNat = 0 ∧
    (headDelimited (withRxf shortHead closed) ∧ (withRxf shortHead closed).rxfLen.toNat = 13) ∧
    ((withRxf [0xDA, 0x01, 0xFE, 0x9F] closed).rxfLen.toNat = 4 ∧
      rxfByte (withRxf [0xDA, 0x01, 0xFE, 0x9F] closed) 0 = 0xDA) ∧
    (withRxf [0xED, 0x00, 0xFF, 0xFC, 0x90, 0x00] closed).rxfLen.toNat = 6 ∧
      rxfByte (withRxf [0xED, 0x00, 0xFF, 0xFC, 0x90, 0x00] closed) 0 = 0xED := by
  unfold headDelimited
  decide

theorem witness_DecodeRejectsBadCrcAndComplement :
    State.reset.state ∈ [EngineState.idle, .waitChunk, .error] ∧
    (shaped (withRxf [0xDA, 0x01, 0xFE, 0x42, 0x9F, 0xB3] opened) .data ∧
      rxfTrailer (withRxf [0xDA, 0x01, 0xFE, 0x42, 0x9F, 0xB3] opened) ≠
        rxfCrc (withRxf [0xDA, 0x01, 0xFE, 0x42, 0x9F, 0xB3] opened)) ∧
    shaped (withRxf [0xDA, 0x01, 0xFF, 0x41, 0xAC, 0x82] opened) .data ∧
      rxfTrailer (withRxf [0xDA, 0x01, 0xFF, 0x41, 0xAC, 0x82] opened) =
        rxfCrc (withRxf [0xDA, 0x01, 0xFF, 0x41, 0xAC, 0x82] opened) ∧
      rxfByte (withRxf [0xDA, 0x01, 0xFF, 0x41, 0xAC, 0x82] opened) 2 ≠
        ~~~(rxfByte (withRxf [0xDA, 0x01, 0xFF, 0x41, 0xAC, 0x82] opened) 1) := by
  unfold shaped
  decide +kernel

/-- V20's frame in `RXF`. -/
def headInRxf : State :=
  withRxf [0xFE, 0x00, 0xFF, 0x01, 0x00, 0x00, 0x04, 0x00, 0x00, 0x10, 0x00, 0x00, 0xFD, 0x62] closed

theorem witness_DecodeAcceptsTheHeadFrameBuilt :
    headInRxf.state ∈ [EngineState.idle, .waitChunk, .error] ∧ headInRxf.rxfLen = 14 ∧
    (List.range 14).map (rxfByte headInRxf) =
      ([0xFE, 0x00, 0xFF, 0x01] ++ be32 0x00000400 ++ be32 0x00100000) ++
        be16 (crc16 ([0xFE, 0x00, 0xFF, 0x01] ++ be32 0x00000400 ++ be32 0x00100000)) := by decide +kernel

/-- V90's frame in `RXF`. -/
def dataInRxf : State := withRxf [0xDA, 0x01, 0xFE, 0x41, 0x9F, 0xB3] opened

theorem witness_DecodeReadsAndWritesOnlyTheDecoder :
    dataInRxf.state ∈ [EngineState.idle, .waitChunk, .error] ∧
    { dataInRxf with state := .error, acc := 0xBEEF }.state ∈ [EngineState.idle, .waitChunk, .error] ∧
    { dataInRxf with state := .error, acc := 0xBEEF }.rxfLen = dataInRxf.rxfLen ∧
    { dataInRxf with state := .error, acc := 0xBEEF }.ctrl.tailOff = dataInRxf.ctrl.tailOff ∧
    { dataInRxf with state := .error, acc := 0xBEEF }.tracker = dataInRxf.tracker ∧
    ∀ k, k < dataInRxf.rxfLen.toNat →
      rxfByte { dataInRxf with state := .error, acc := 0xBEEF } k = rxfByte dataInRxf k :=
  ⟨by decide, by decide, rfl, rfl, rfl, fun _ _ => rfl⟩

theorem witness_DecodeTracksTheDataFrameBuilt :
    dataInRxf.state ∈ [EngineState.idle, .waitChunk, .error] ∧ [(0x41 : Byte)].length ≤ 1024 ∧
    dataInRxf.rxfLen.toNat = [(0x41 : Byte)].length + 5 ∧
    (List.range ([(0x41 : Byte)].length + 5)).map (rxfByte dataInRxf) =
      ([0xDA, 0x01, ~~~(0x01 : Byte)] ++ [0x41]) ++ be16 (crc16 ([0xDA, 0x01, ~~~(0x01 : Byte)] ++ [0x41])) := by
  decide +kernel

/-- V96's frame in `RXF`. -/
def tailInRxf : State := withRxf [0xED, 0x01, 0xFE, 0xDF, 0x80] { exp := 1, inXfer := true, cnt := 1 }

theorem witness_DecodeTracksTheTailFrameBuilt :
    tailInRxf.state ∈ [EngineState.idle, .waitChunk, .error] ∧ tailInRxf.rxfLen = 5 ∧
    (List.range 5).map (rxfByte tailInRxf) =
      [0xED, 0x01, ~~~(0x01 : Byte)] ++ be16 (crc16 [0xED, 0x01, ~~~(0x01 : Byte)]) := by decide +kernel

theorem witness_DecodeRejectsOneByteChange :
    dataInRxf.state ∈ [EngineState.idle, .waitChunk, .error] ∧ 5 < dataInRxf.rxfLen.toNat ∧
    (0x00 : Byte) ≠ rxfByte dataInRxf 5 ∧
    shows (exec .decode dataInRxf) (·.rx.code) = some .ok ∧
    (shows (exec .decode { dataInRxf with mem := dataInRxf.mem.write (0x800 + 5) [0x00] }) (·.rx.code)).isSome := by
  decide +kernel

theorem witness_ReadOnlyAndReservedWritesAreIgnored :
    [(0x00C : Offset), 0x06F, 0x070, 0x3FF, 0xC08, 0x1000, 0x1404, 0x1FFF].all (fun off =>
      decide ((inState .idle [.hostWrite off 0xFFFFFFFF]).env.inputs = [.hostWrite off 0xFFFFFFFF]) &&
      ignoresWrites (off &&& ~~~3).toNat) = true := by decide

theorem witness_HostWriteLeavesTheEngineAlone :
    [(0x000 : Offset), 0x008, 0x010, 0x3FF, 0x400, 0x7FC, 0x800, 0xC04, 0x1000, 0x1FFF].all (fun off =>
      decide ((inState .tx [.hostWrite off 0xFFFFFFFF]).env.inputs = [.hostWrite off 0xFFFFFFFF]) &&
      decide (off &&& ~~~3 ≠ 0x004)) = true ∧
    ((0x3FF : Offset) &&& ~~~3).toNat < chunkRegion.base ∧
    (chunkRegion.contains 0x3FF = false ∧ rxfRegion.contains 0x3FF = false) ∧
    (chunkRegion.contains 0xC05 = false ∧ rxfRegion.contains 0xC05 = false) ∧
    0x3FF < ((0x403 : Offset) &&& ~~~3).toNat ∧ ((0x403 : Offset) &&& ~~~3).toNat + 4 ≤ 0x404 := by decide

/-- The first and the last words of each buffer, at the values R43 gives: 0xC00 is a full word of `RXF`, and 0xC04 and
0x1404 hold one byte. -/
theorem witness_BufferWordsArePackedLittleEndian :
    (255 < 256 ∧ BitVec.ofNat 13 (0x400 + 4 * 255) = (0x7FC : Offset) ∧
      hostLoad 0x7FC (hostStore 0x7FC 0x44332211 State.reset) = 0x44332211) ∧
    (256 < 258 ∧ BitVec.ofNat 13 (0x800 + 4 * 256) = (0xC00 : Offset) ∧
      hostLoad 0xC00 (hostStore 0xC00 0x44332211 State.reset) = 0x44332211) ∧
    (257 < 258 ∧ BitVec.ofNat 13 (0x800 + 4 * 257) = (0xC04 : Offset) ∧
      hostLoad 0xC04 (hostStore 0xC04 0x44332211 State.reset) = 0x00000011 ∧
      (hostStore 0xC04 0x44332211 State.reset).mem.cells = [(0xC04, 0x11)]) ∧
    BitVec.ofNat 13 (0x1000 + 4 * 257) = (0x1404 : Offset) ∧
      hostLoad 0x1404 { State.reset with mem := State.reset.mem.write 0x1404 [0x55] } = 0x00000055 := by decide +kernel

theorem witness_HostAccessesNeverFaultAndIgnoreLowOffsetBits :
    (inState .tx [.hostRead 0x1FFF]).env.inputs = [.hostRead 0x1FFF] ∧
    (inState .tx [.hostWrite 0x1FFF 0x12345678]).env.inputs = [.hostWrite 0x1FFF 0x12345678] ∧
    (0x1FFF : Offset) &&& ~~~3 ≠ 0x004 ∧
    [(0x007 : Offset), 0x070, 0x3FF, 0xC08, 0xFFF, 0x1408, 0x1FFF].all
      (fun off => readsZero (off &&& ~~~3).toNat) = true := by decide

theorem witness_ControlCommandsDoAsStated :
    (∀ st ∈ [EngineState.idle, .waitChunk, .error], (inState st []).state ∈ [EngineState.idle, .waitChunk, .error]) ∧
    (inState .error []).state ∈ [EngineState.idle, .error] ∧
    (inState .waitAck [.resetInput]).env.inputs = [.resetInput] := by decide

theorem witness_ClearInIdleChangesNothing : ControlInv State.reset ∧ State.reset.state = .idle where
  left :=
    { memWf := by decide
      memInBuffers := by decide
      idleNoTransfer := by decide
      waitChunkData := by decide
      settleTail := by decide
      errCodeIff := by decide
      errInfoZero := by decide
      txfLenBound := by decide }
  right := rfl

theorem witness_CanonicalMemoryIsDeterminedByItsReads :
    dataInRxf.mem.wf ∧ State.reset.mem.wf := by decide +kernel

end Sys2Proof.Tests
end

section
/-! PROOFS. What the host reads from the registers (20_memory.md R42, 45_control.md R133), what a write to an RW register
stores (R132), and the FLUSH and WAIT_ACK steps (42_ack_handshake.md R91, R93). -/

namespace Sys2Proof.StateProofs

open Sys2Proof Sys2Proof.Machine Sys2Proof.Safety

/-! ### Fields of a register word (R133) -/

theorem getLsbD_field {w : Nat} (v : BitVec w) (n i : Nat) :
    (field v n).getLsbD i = (decide (i < 32) && decide (n ≤ i) && v.getLsbD (i - n)) := by
  simp only [field, BitVec.getLsbD_shiftLeft, BitVec.getLsbD_setWidth]
  by_cases hi : i < 32
  · have hlt : i - n < 32 := by omega
    simp only [hi, hlt, Nat.not_lt, ← decide_not, decide_true, Bool.true_and]
  · simp only [hi, decide_false, Bool.false_and]

/-- A flag shows in its own bit and in no other. -/
theorem getLsbD_flag (b : Bool) (n i : Nat) : (flag b n).getLsbD i = (decide (i < 32) && decide (i = n) && b) := by
  rw [flag, getLsbD_field, BitVec.getLsbD_ofBool]
  have hbit : i = n ↔ n ≤ i ∧ i - n = 0 := by omega
  simp only [hbit, Bool.decide_and, Bool.and_assoc]

/-- The bits of a field's own place read the field back. -/
theorem extractLsb'_field_same {w : Nat} (v : BitVec w) (n : Nat) (h : n + w ≤ 32) :
    (field v n).extractLsb' n w = v := by
  refine BitVec.eq_of_getLsbD_eq fun i hi => ?_
  have hn : n + i < 32 := by omega
  rw [BitVec.getLsbD_extractLsb', getLsbD_field, Nat.add_sub_cancel_left]
  simp only [hi, hn, Nat.le_add_right, decide_true, Bool.true_and]

/-- The bits beside a field's place are zero in its word. -/
theorem extractLsb'_field_apart {w : Nat} (v : BitVec w) (n start len : Nat) (h : start + len ≤ n ∨ n + w ≤ start) :
    (field v n).extractLsb' start len = 0 := by
  refine BitVec.eq_of_getLsbD_eq fun i hi => ?_
  rw [BitVec.getLsbD_extractLsb', getLsbD_field]
  rcases h with h | h
  · have hlow : ¬ n ≤ start + i := by omega
    simp [hlow]
  · have hhigh : w ≤ start + i - n := by omega
    simp [BitVec.getLsbD_of_ge _ _ hhigh]

theorem extractLsb'_flag_apart (b : Bool) (n start len : Nat) (h : start + len ≤ n ∨ n + 1 ≤ start) :
    (flag b n).extractLsb' start len = 0 :=
  extractLsb'_field_apart _ _ _ _ h

/-! ### The words made of fields (R27, R33 to R35, R133) -/

theorem ctrlWord_bits (s : State) :
    (ctrlWord s).getLsbD 0 = s.ctrl.tailOff ∧ (ctrlWord s).getLsbD 1 = s.ctrl.sdOk ∧
      (ctrlWord s).getLsbD 2 = s.ctrl.ieDone ∧ (ctrlWord s).getLsbD 3 = s.ctrl.ieErr ∧
      (ctrlWord s).extractLsb' 4 28 = 0 := by
  refine ⟨?_, ?_, ?_, ?_, ?_⟩
  iterate 4 · simp only [ctrlWord, BitVec.getLsbD_or, getLsbD_flag]; simp
  simp [ctrlWord, BitVec.extractLsb'_or, extractLsb'_flag_apart]

theorem statusWord_flags (s : State) :
    (statusWord s).getLsbD 0 = s.busy ∧ (statusWord s).getLsbD 1 = s.done ∧ (statusWord s).getLsbD 2 = s.err ∧
      (statusWord s).getLsbD 3 = s.ovr ∧ (statusWord s).getLsbD 4 = s.rxv ∧ (statusWord s).getLsbD 5 = s.xact ∧
      (statusWord s).getLsbD 6 = s.irq ∧ (statusWord s).getLsbD 7 = false := by
  refine ⟨?_, ?_, ?_, ?_, ?_, ?_, ?_, ?_⟩ <;>
  · simp only [statusWord, BitVec.getLsbD_or, getLsbD_flag, getLsbD_field]; simp

theorem statusWord_fields (s : State) :
    (statusWord s).extractLsb' 8 4 = s.state.code ∧ (statusWord s).extractLsb' 12 4 = s.errCode.code ∧
      (statusWord s).extractLsb' 16 8 = s.lastRx ∧ (statusWord s).extractLsb' 24 2 = s.cls.code ∧
      (statusWord s).extractLsb' 26 2 = s.xphase.code ∧ (statusWord s).extractLsb' 28 4 = 0 := by
  refine ⟨?_, ?_, ?_, ?_, ?_, ?_⟩ <;>
  simp [statusWord, BitVec.extractLsb'_or, extractLsb'_field_same, extractLsb'_field_apart, extractLsb'_flag_apart]

theorem errInfoWord_fields (s : State) :
    (errInfoWord s).extractLsb' 0 8 = s.errInfo.exp ∧ (errInfoWord s).extractLsb' 8 8 = s.errInfo.rx ∧
      (errInfoWord s).extractLsb' 16 2 = s.errInfo.cls ∧ (errInfoWord s).extractLsb' 18 6 = 0 ∧
      (errInfoWord s).extractLsb' 24 8 = s.errInfo.op := by
  refine ⟨?_, ?_, ?_, ?_, ?_⟩ <;>
  simp [errInfoWord, BitVec.extractLsb'_or, extractLsb'_field_same, extractLsb'_field_apart]

theorem rxInfoWord_fields (s : State) :
    (rxInfoWord s).extractLsb' 0 2 = s.rx.kind.code ∧ (rxInfoWord s).extractLsb' 2 2 = 0 ∧
      (rxInfoWord s).extractLsb' 4 4 = s.rx.code.code ∧ (rxInfoWord s).extractLsb' 8 8 = s.rx.n ∧
      (rxInfoWord s).extractLsb' 16 11 = s.rx.chunkLen ∧ (rxInfoWord s).extractLsb' 27 5 = 0 := by
  refine ⟨?_, ?_, ?_, ?_, ?_, ?_⟩ <;>
  simp [rxInfoWord, BitVec.extractLsb'_or, extractLsb'_field_same, extractLsb'_field_apart]

theorem rxCrcWord_fields (s : State) :
    (rxCrcWord s).extractLsb' 0 16 = s.rx.recvCrc ∧ (rxCrcWord s).extractLsb' 16 16 = s.rx.calcCrc := by
  constructor <;>
  simp [rxCrcWord, BitVec.extractLsb'_or, extractLsb'_field_same, extractLsb'_field_apart]

theorem rxTrackWord_fields (s : State) :
    (rxTrackWord s).extractLsb' 0 8 = s.tracker.exp ∧ (rxTrackWord s).getLsbD 8 = s.tracker.inXfer ∧
      (rxTrackWord s).extractLsb' 9 23 = 0 := by
  refine ⟨?_, ?_, ?_⟩
  · simp [rxTrackWord, BitVec.extractLsb'_or, extractLsb'_field_same, extractLsb'_flag_apart]
  · simp only [rxTrackWord, BitVec.getLsbD_or, getLsbD_flag, getLsbD_field]; simp
  · simp [rxTrackWord, BitVec.extractLsb'_or, extractLsb'_field_apart, extractLsb'_flag_apart]

/-! ### The flags of `STATUS` as the rules state them (R28, R36) -/

theorem busy_eq (s : State) : s.busy = decide (s.state ∈ [EngineState.flush, .tx, .waitAck, .settle]) := by
  unfold State.busy
  cases s.state <;> rfl

theorem err_eq (s : State) : s.err = decide (s.state = .error) := by
  unfold State.err
  cases s.state <;> rfl

theorem xact_eq (s : State) : s.xact = decide (s.xphase ≠ .none) := by
  unfold State.xact
  cases s.xphase <;> rfl

/-! ### Host accesses to registers (R132, R133) -/

theorem hostLoad_reg {off : Offset} {r : Reg} (h : regAt (wordAddr off) = some r) (s : State) :
    hostLoad off s = readReg r s := by
  simp only [hostLoad, h]

theorem hostStore_reg {off : Offset} {r : Reg} (h : regAt (wordAddr off) = some r) (v : Word) (s : State) :
    hostStore off v s = writeReg r v s := by
  simp only [hostStore, h]

/-- What a read of a register gives just after a write to it. -/
theorem hostLoad_hostStore_reg {off : Offset} {r : Reg} (h : regAt (wordAddr off) = some r) (v : Word) (s : State) :
    hostLoad off (hostStore off v s) = readReg r (writeReg r v s) := by
  rw [hostStore_reg h, hostLoad_reg h]

/-- Settles O50: `STATUS` is an or of fields at places that do not overlap, so each is read off in its own place. -/
theorem statusReadShowsTheFlags : Obligations.StatusReadShowsTheFlags := by
  intro s
  have hw : statusWord s = hostLoad 0x008 s := (hostLoad_reg (r := .status) (by decide) s).symm
  obtain ⟨hbusy, hdone, herr, hovr, hrxv, hxact, hirq, hrsv⟩ := statusWord_flags s
  obtain ⟨hstate, hcode, hlast, hcls, hphase, htop⟩ := statusWord_fields s
  refine ⟨statusWord s, hw, hbusy.trans (busy_eq s), hdone, herr.trans (err_eq s), hovr, hrxv,
    hxact.trans (xact_eq s), ?_, hrsv, hstate, hcode, hlast, hcls, hphase, htop⟩
  rw [hirq, State.irq, err_eq]

/-- Settles O60: each offset is mapped to its register, and the five words made of fields are read off field by field. -/
theorem registerReadsShowTheirFields : Obligations.RegisterReadsShowTheirFields := by
  intro s
  have load : ∀ (off : Offset) (r : Reg), regAt (wordAddr off) = some r → hostLoad off s = readReg r s :=
    fun _ _ h => hostLoad_reg h s
  obtain ⟨hexp, hrx, hcls, hrsv, hop⟩ := errInfoWord_fields s
  refine ⟨ctrlWord s, errInfoWord s, rxInfoWord s, rxCrcWord s, rxTrackWord s,
    ⟨(load 0x000 .ctrl (by decide)).symm, ctrlWord_bits s⟩,
    ⟨(load 0x06C .errInfo (by decide)).symm, hexp, hrx, hcls, hrsv, hop, rfl⟩,
    ⟨(load 0x054 .rxInfo (by decide)).symm, rxInfoWord_fields s⟩,
    ⟨(load 0x058 .rxCrc (by decide)).symm, rxCrcWord_fields s⟩,
    ⟨(load 0x064 .rxTrack (by decide)).symm, rxTrackWord_fields s⟩,
    ⟨load 0x05C .rxLen (by decide), load 0x060 .rxAddr (by decide), load 0x068 .rxCnt (by decide)⟩,
    ⟨load 0x00C .crc (by decide), load 0x010 .len (by decide), load 0x014 .addr (by decide),
      load 0x018 .chunkLen (by decide), load 0x01C .seq (by decide), load 0x020 .nsent (by decide),
      load 0x024 .remain (by decide), load 0x028 .progSent (by decide), load 0x02C .progTotal (by decide),
      load 0x030 .silentRun (by decide), load 0x034 .silentTotal (by decide)⟩,
    ⟨load 0x038 .toHead (by decide), load 0x03C .toData (by decide), load 0x040 .toTail (by decide),
      load 0x044 .toRaw (by decide), load 0x048 .settle (by decide)⟩,
    load 0x04C .txfLen (by decide), load 0x050 .rxfLen (by decide)⟩

/-! ### The RW registers: the defined bits of a write (R14, R132) -/

/-- Keeping the low `k` bits of a word is masking it with `2 ^ k - 1`. -/
theorem setWidth_setWidth_eq_and_mask (v : Word) (k : Nat) :
    (v.setWidth k).setWidth 32 = v &&& BitVec.ofNat 32 (2 ^ k - 1) := by
  refine BitVec.eq_of_getLsbD_eq fun i hi => ?_
  simp only [BitVec.getLsbD_and, BitVec.getLsbD_ofNat, BitVec.getLsbD_setWidth, Nat.testBit_two_pow_sub_one, hi,
    decide_true, Bool.true_and, Bool.and_comm]

/-- `CTRL` stores bits 3:0 of the word written (R27). -/
theorem ctrlWord_writeCtrl (v : Word) (s : State) : ctrlWord (writeCtrl v s) = v &&& 0x0000000F := by
  refine Eq.trans (BitVec.eq_of_getLsbD_eq fun i hi => ?_) (setWidth_setWidth_eq_and_mask v 4)
  simp only [ctrlWord, writeCtrl, BitVec.getLsbD_or, getLsbD_flag, BitVec.getLsbD_setWidth]
  by_cases h : i < 4
  · interval_cases i <;> simp
  · have : i ≠ 0 ∧ i ≠ 1 ∧ i ≠ 2 ∧ i ≠ 3 := by omega
    simp [this, h]

/-- Settles O52: each RW register reads back the word written, cut to the width of the field that stores it. -/
theorem registerWriteReadsBackDefinedBits : Obligations.RegisterWriteReadsBackDefinedBits := by
  intro s v
  have back : ∀ (off : Offset) (r : Reg), regAt (wordAddr off) = some r →
      hostLoad off (hostStore off v s) = readReg r (writeReg r v s) := fun _ _ h => hostLoad_hostStore_reg h v s
  have low11 := setWidth_setWidth_eq_and_mask v 11
  have low16 := setWidth_setWidth_eq_and_mask v 16
  simp only [List.forall_mem_cons, List.not_mem_nil, false_imp_iff, implies_true, and_true]
  exact ⟨(back 0x000 .ctrl (by decide)).trans (ctrlWord_writeCtrl v s),
    ⟨back 0x010 .len (by decide), back 0x014 .addr (by decide)⟩,
    ⟨(back 0x018 .chunkLen (by decide)).trans low11, (back 0x050 .rxfLen (by decide)).trans low11⟩,
    (back 0x038 .toHead (by decide)).trans low16, (back 0x03C .toData (by decide)).trans low16,
    (back 0x040 .toTail (by decide)).trans low16, (back 0x044 .toRaw (by decide)).trans low16,
    (back 0x048 .settle (by decide)).trans low16⟩

/-! ### The registers after reset (R14, R151, R152) -/

/-- After reset every word of the window but those of `CTRL` and `SETTLE` reads the same under all reset parameters
(R151), so its value can be read off `State.reset`. -/
theorem hostLoad_resetWith (p : Params) {off : Offset}
    (h : regAt (wordAddr off) ∉ [some Reg.ctrl, some Reg.settle]) :
    hostLoad off (State.resetWith p) = hostLoad off State.reset := by
  cases hr : regAt (wordAddr off) with
  | none => simp only [hostLoad, hr]; rfl
  | some r =>
    rw [hostLoad_reg hr, hostLoad_reg hr]
    rw [hr] at h
    cases r
    case ctrl | settle => exact absurd (by decide) h
    all_goals rfl

theorem ctrlWord_resetWith (p : Params) : ctrlWord (State.resetWith p) =
    (BitVec.ofBool p.tailOffsetReset).setWidth 32 ||| (BitVec.ofBool p.sdokReset).setWidth 32 <<< 1 := by
  simp [ctrlWord, State.resetWith, flag, field]

/-- Settles O51: `CTRL` and `SETTLE` show the reset parameters, every other word is that of `State.reset`. -/
theorem resetRegistersReadTheirValues : Obligations.ResetRegistersReadTheirValues := by
  intro p
  have shared : ∀ (off : Offset) (w : Word), regAt (wordAddr off) ∉ [some Reg.ctrl, some Reg.settle] →
      hostLoad off State.reset = w → hostLoad off (State.resetWith p) = w :=
    fun _ _ h hw => (hostLoad_resetWith p h).trans hw
  refine ⟨(hostLoad_reg (r := .ctrl) (by decide) _).trans (ctrlWord_resetWith p), ?_,
    shared 0x01C 1 (by decide) (by decide), shared 0x038 90 (by decide) (by decide),
    shared 0x03C 450 (by decide) (by decide), shared 0x040 10 (by decide) (by decide),
    shared 0x044 1000 (by decide) (by decide), hostLoad_reg (r := .settle) (by decide) _,
    shared 0x054 0x000000F0 (by decide) (by decide), shared 0x064 0x00000001 (by decide) (by decide),
    read_empty, rfl, rfl⟩
  have zeros : ([0x004, 0x008, 0x00C, 0x010, 0x014, 0x018, 0x020, 0x024, 0x028, 0x02C, 0x030, 0x034,
      0x04C, 0x050, 0x058, 0x05C, 0x060, 0x068, 0x06C] : List Offset).all (fun off =>
      decide (regAt (wordAddr off) ∉ [some Reg.ctrl, some Reg.settle] ∧ hostLoad off State.reset = 0)) = true := by
    decide
  intro off hoff
  obtain ⟨hreg, hzero⟩ := of_decide_eq_true (List.all_eq_true.1 zeros off hoff)
  exact shared off 0 hreg hzero

/-! ### Scheduled engine steps (R91, R93, R134, R135) -/

/-- A scheduled event is the next step (log 1). -/
theorem step_of_scheduled {s : State} {e : Event} {es : List Event} (h : s.env.inputs = e :: es) :
    step s = onEvent e (s.withInputs es) := by
  simp only [step, nextEvent, h]

theorem engineStep_flushOk {s : State} (h : s.state = .flush) : engineStep .flushOk s = .next (flushStep true s) := by
  simp only [engineStep, h]

theorem engineStep_flushErr {s : State} (h : s.state = .flush) :
    engineStep .flushErr s = .next (flushStep false s) := by
  simp only [engineStep, h]

theorem engineStep_readDraw {s : State} (h : s.state = .waitAck) (r : ReadOutcome) :
    engineStep (readDraw r) s = .next (waitAckStep r s) := by
  cases r <;> simp only [engineStep, readDraw, h]

/-- Settles O24: the scheduled draw picks the outcome of the FLUSH step. -/
theorem flushStepOutcomes : Obligations.FlushStepOutcomes := by
  intro s rest hs
  refine ⟨fun h => ?_, fun h => ?_⟩
  · rw [step_of_scheduled h]
    exact engineStep_flushOk hs
  · rw [step_of_scheduled h]
    exact engineStep_flushErr hs

/-! ### The link requests of a WAIT_ACK step, and the timeout held since FLUSH (R29, R93, R99) -/

@[simp] theorem buildTail_startTimeout (s : State) : (buildTail s).startTimeout = s.startTimeout := by
  simp [buildTail_eq]

@[simp] theorem buildTail_env (s : State) : (buildTail s).env = s.env := by simp [buildTail_eq]

/-- The continuation of a successful handshake asks the link for at most the settle delay (R97, R108). -/
theorem success_link (s : State) :
    ∃ more, (success s).env.link = s.env.link ++ more ∧ ∀ e ∈ more, ∃ d, e = .settle d := by
  rcases success_cases s with ⟨_, h⟩ | ⟨_, _, h⟩ | ⟨_, _, h⟩ | ⟨_, _, h⟩ | ⟨_, _, h⟩ | ⟨_, h⟩
  case inr.inr.inr.inr.inr => exact ⟨[.settle s.timeouts.settle], by simp [h], by simp⟩
  all_goals exact ⟨[], by simp [h], by simp⟩

theorem success_startTimeout (s : State) : (success s).startTimeout = s.startTimeout := by
  rcases success_cases s with ⟨_, h⟩ | ⟨_, _, h⟩ | ⟨_, _, h⟩ | ⟨_, _, h⟩ | ⟨_, _, h⟩ | ⟨_, h⟩ <;> simp [h]

/-- A WAIT_ACK step makes one read, and after it at most the request of the settle delay. -/
theorem waitAckStep_link (r : ReadOutcome) (s : State) :
    ∃ more, (waitAckStep r s).env.link = s.env.link ++ .read (ackTimeout s) r :: more ∧
      ∀ e ∈ more, ∃ d, e = .settle d := by
  rcases waitAckStep_cases r s with ⟨v, l, c, x, y, k, h, _⟩ | ⟨_, v, l, n, m, h⟩
  · exact ⟨[], by simp [h], by simp⟩
  · obtain ⟨more, hlink, hmore⟩ := success_link
      { logLink (.read (ackTimeout s) r) s with rxv := v, lastRx := l, silentRun := n, silentTotal := m }
    exact ⟨more, by rw [h, hlink]; simp, hmore⟩

theorem waitAckStep_startTimeout (r : ReadOutcome) (s : State) : (waitAckStep r s).startTimeout = s.startTimeout := by
  rcases waitAckStep_cases r s with ⟨v, l, c, x, y, k, h, _⟩ | ⟨_, v, l, n, m, h⟩
  · simp [h]
  · simp [h, success_startTimeout]

theorem hostStore_startTimeout (off : Offset) (v : Word) (s : State) :
    (hostStore off v s).startTimeout = s.startTimeout := by
  obtain ⟨_, _, _, _, _, _, _, _, _, h, _⟩ := hostStore_frame off v s
  rw [h]

/-- Only a FLUSH step or a reset changes the held timeout. -/
theorem move_startTimeout {s t : State} (h : Move s t) (hs : s.state ≠ .flush) :
    t.startTimeout = s.startTimeout ∨ t = resetBlock s := by
  cases h with
  | reset => exact .inr rfl
  | flush ok hflush => exact absurd hflush hs
  | waitAck r => exact .inl (waitAckStep_startTimeout r s)
  | store off v => exact .inl (hostStore_startTimeout off v s)
  | tx ok => exact .inl (by cases ok <;> rfl)
  | _ => exact .inl rfl

/-- Settles O26: one clause is about the link requests of the WAIT_ACK step, the other follows by cases on the moves of
the block. -/
theorem waitAckReadsOnceWithTheClassTimeout : Obligations.WaitAckReadsOnceWithTheClassTimeout := by
  refine ⟨fun s rest r hs h => ?_, fun s t hs h => ?_⟩
  · obtain ⟨more, hlink, hmore⟩ := waitAckStep_link r (s.withInputs rest)
    exact ⟨_, more, (step_of_scheduled h).trans (engineStep_readDraw (s := s.withInputs rest) hs r), hlink, hmore⟩
  · obtain ⟨u, hmove, hu⟩ := step_moves h
    have hframe : u.state = s.state ∧ u.startTimeout = s.startTimeout ∧ u.params = s.params := by
      rcases hu with ⟨es, rfl⟩ | rfl | rfl <;> exact ⟨rfl, rfl, rfl⟩
    obtain ⟨hstate, hheld, hparams⟩ := hframe
    rcases move_startTimeout hmove (hstate ▸ hs) with hkept | hreset
    · exact .inl (hkept.trans hheld)
    · exact .inr ⟨u.env, by rw [hreset, resetBlock, hparams]⟩

end Sys2Proof.StateProofs
end

section
/-! PROOFS. Two invariants of every step, each by cases on the moves of the block: what the block hands to the link is a
frame (20_memory.md R55, 41_frame_encoder.md R84, 42_ack_handshake.md R92), and its requests come in order (R56, R90,
R99). -/

namespace Sys2Proof.LinkProofs

open Sys2Proof Sys2Proof.Machine Sys2Proof.Safety

/-- A property that no move of the block breaks, and that does not look at the events to come or at the count of draws,
is kept by every step. -/
theorem step_keeps {P : State → Prop} (hinputs : ∀ s es, P s → P (s.withInputs es))
    (hdraw : ∀ s, P s → P (countDraw s)) (hmove : ∀ {s t}, Move s t → P s → P t) {s t : State}
    (hs : P s) (h : step s = .next t) : P t := by
  obtain ⟨u, hut, hu⟩ := step_moves h
  refine hmove hut ?_
  rcases hu with ⟨es, rfl⟩ | rfl | rfl
  · exact hinputs s es hs
  · exact hdraw s hs
  · exact hs

/-! ### What a host store leaves to the engine (R55) -/

@[simp] theorem hostStore_state (off : Offset) (v : Word) (s : State) : (hostStore off v s).state = s.state := by
  obtain ⟨_, _, _, _, _, _, _, _, _, h, _⟩ := hostStore_frame off v s
  rw [h]

@[simp] theorem hostStore_env (off : Offset) (v : Word) (s : State) : (hostStore off v s).env = s.env := by
  obtain ⟨_, _, _, _, _, _, _, _, _, h, _⟩ := hostStore_frame off v s
  rw [h]

/-- No host store reaches the frame in `TXF`: the buffers it writes end below the window of `TXF` (R42, R55). -/
@[simp] theorem hostStore_txFrame (off : Offset) (v : Word) (s : State) : (hostStore off v s).txFrame = s.txFrame := by
  obtain ⟨_, _, _, _, _, _, _, _, m, h, hm⟩ := hostStore_frame off v s
  rw [h]
  change m.bytes txfRegion.base s.txfLen.toNat = s.txFrame
  rcases hm with rfl | ⟨base, bs, rfl, hin⟩
  · rfl
  · refine bytes_write_apart _ _ _ _ _ (.inr ?_)
    simp only [txfRegion]
    omega

@[simp] theorem resetBlock_state (s : State) : (resetBlock s).state = .idle := rfl

@[simp] theorem settleStep_state (s : State) : (settleStep s).state = .idle := rfl

theorem chunkNeed_le (s : State) : chunkNeed s ≤ 1024 := Nat.min_le_left _ _

/-! ### Frames (R84, R92) -/

/-- `f` is a payload and its CRC: what `FramesSound` says of a frame, through the model's `frameOf` (R65). -/
def IsFrame (f : List Byte) : Prop := ∃ payload, f = frameOf payload

/-- Frames stay sound where the link is asked to write frames only and a handshake in progress has a frame in `TXF`. -/
theorem framesSound_of_logged {s t : State} (hs : FramesSound s) {more : List LinkEvent}
    (hlink : t.env.link = s.env.link ++ more) (hmore : ∀ f ok, LinkEvent.write f ok ∈ more → IsFrame f)
    (htxf : inHandshake t = true → IsFrame t.txFrame) : FramesSound t where
  inTxf := htxf
  written f ok hf := by
    rw [hlink] at hf
    rcases List.mem_append.1 hf with hold | hnew
    · exact hs.written f ok hold
    · exact hmore f ok hnew

/-- Frames stay sound where nothing is asked of the link. -/
theorem framesSound_of_quiet {s t : State} (hs : FramesSound s) (hlink : t.env.link = s.env.link)
    (htxf : inHandshake t = true → IsFrame t.txFrame) : FramesSound t :=
  framesSound_of_logged hs (more := []) (by simpa using hlink) (by simp) htxf

/-- A build puts a frame in `TXF` (R84). -/
theorem framesSound_build {s u : State} (hs : FramesSound s) (hlink : u.env.link = s.env.link) {p : List Byte}
    (hp : p.length ≤ 1027) (c : FrameClass) (op : Byte) : FramesSound (build p c op u) :=
  framesSound_of_quiet hs hlink fun _ => ⟨p, build_txFrame p c op u hp⟩

theorem framesSound_buildTail {s u : State} (hs : FramesSound s) (hlink : u.env.link = s.env.link) :
    FramesSound (buildTail u) := by
  rw [buildTail_eq]
  exact framesSound_build (u := { u with xphase := .tail }) hs hlink (by simp) _ _

/-- The continuation of a handshake ends it or builds the tail frame (R97). -/
theorem framesSound_success {s : State} (hs : FramesSound s) : FramesSound (success s) := by
  rcases success_cases s with ⟨_, h⟩ | ⟨_, _, h⟩ | ⟨_, _, h⟩ | ⟨_, _, h⟩ | ⟨_, _, h⟩ | ⟨_, h⟩ <;> rw [h]
  · exact framesSound_of_quiet hs rfl (by simp [inHandshake])
  · exact framesSound_of_quiet hs rfl (by simp [inHandshake])
  · exact framesSound_buildTail hs rfl
  · exact framesSound_of_quiet hs rfl (by simp [inHandshake])
  · exact framesSound_buildTail hs rfl
  · exact framesSound_of_logged hs (more := [_]) rfl (by simp) (by simp [inHandshake])

theorem framesSound_flushStep (ok : Bool) {s : State} (hs : FramesSound s) (hstate : s.state = .flush) :
    FramesSound (flushStep ok s) := by
  have htxf : IsFrame s.txFrame := hs.inTxf (by simp [inHandshake, hstate])
  cases ok <;> exact framesSound_of_logged hs (more := [_]) rfl (by simp) fun _ => htxf

/-- The TX step hands over the frame in `TXF` (R92). -/
theorem framesSound_txStep (ok : Bool) {s : State} (hs : FramesSound s) (hstate : s.state = .tx) :
    FramesSound (txStep ok s) := by
  have htxf : IsFrame s.txFrame := hs.inTxf (by simp [inHandshake, hstate])
  have hwritten : ∀ f ok', LinkEvent.write f ok' ∈ [LinkEvent.write s.txFrame ok] → IsFrame f := by
    intro f ok' h
    obtain ⟨rfl, -⟩ := LinkEvent.write.inj (List.mem_singleton.1 h)
    exact htxf
  cases ok <;> exact framesSound_of_logged hs rfl hwritten fun _ => htxf

theorem framesSound_waitAckStep (r : ReadOutcome) {s : State} (hs : FramesSound s) (hstate : s.state = .waitAck) :
    FramesSound (waitAckStep r s) := by
  have htxf : IsFrame s.txFrame := hs.inTxf (by simp [inHandshake, hstate])
  rcases waitAckStep_cases r s with ⟨v, l, c, x, y, k, h, _⟩ | ⟨_, v, l, n, m, h⟩ <;> rw [h]
  · exact framesSound_of_logged hs (more := [_]) rfl (by simp) (by simp [inHandshake])
  · exact framesSound_success (framesSound_of_logged hs (more := [_]) rfl (by simp) fun _ => htxf)

/-- A build in IDLE or WAIT_CHUNK makes a frame, a host store leaves the one in `TXF`, and only the TX step writes. -/
theorem move_keeps_framesSound {s t : State} (h : Move s t) (hs : FramesSound s) : FramesSound t := by
  cases h with
  | send p c op _ hp => exact framesSound_build hs rfl hp c op
  | start => exact framesSound_build (u := startTransfer s) hs rfl (by simp) _ _
  | chunk _ hn =>
    refine framesSound_build hs rfl ?_ _ _
    have := chunkNeed_le s
    simp only [length_dataPayload, length_chunkBytes]
    omega
  | store off v =>
    refine framesSound_of_quiet hs (by rw [hostStore_env]) fun hin => ?_
    rw [inHandshake, hostStore_state] at hin
    rw [hostStore_txFrame]
    exact hs.inTxf hin
  | flush ok hstate => exact framesSound_flushStep ok hs hstate
  | tx ok hstate => exact framesSound_txStep ok hs hstate
  | waitAck r hstate => exact framesSound_waitAckStep r hs hstate
  | acceptError | clear | reset | settle => exact framesSound_of_quiet hs rfl (by simp [inHandshake])
  | same | overrun | crc | decode | read => exact framesSound_of_quiet hs rfl hs.inTxf

/-- Settles O38: every move of the block keeps the frames sound. -/
theorem stepKeepsFramesSound : Obligations.StepKeepsFramesSound := by
  intro s t hs h
  exact step_keeps (P := FramesSound) (fun _ _ hs => ⟨hs.inTxf, hs.written⟩) (fun _ hs => ⟨hs.inTxf, hs.written⟩)
    move_keeps_framesSound hs h

/-! ### The order of link requests (R56, R90, R99) -/

/-- A request added at the end keeps the order exactly where it may follow the last one. -/
theorem linkOrdered_concat (prev : Option LinkEvent) (l : List LinkEvent) (e : LinkEvent) :
    linkOrdered prev (l ++ [e]) = (linkOrdered prev l && mayFollow (l.getLast?.or prev) e) := by
  induction l generalizing prev with
  | nil => simp [linkOrdered]
  | cons d ds ih =>
    have hlast : ds.getLast?.or (some d) = (d :: ds).getLast?.or prev := by
      rw [List.getLast?_cons]
      cases ds.getLast? <;> rfl
    rw [List.cons_append, linkOrdered, ih, hlast, linkOrdered, Bool.and_assoc]

/-- Outside TX and WAIT_ACK the invariant says no more than the order. -/
theorem wireOrder_of_ordered {t : State} (ho : linkOrdered none t.env.link = true) (htx : t.state ≠ .tx)
    (hwait : t.state ≠ .waitAck) : WireOrder t :=
  ⟨ho, fun h => absurd h htx, fun h => absurd h hwait⟩

theorem ordered_concat {l : List LinkEvent} {e : LinkEvent} (ho : linkOrdered none l = true)
    (hnext : mayFollow l.getLast? e = true) : linkOrdered none (l ++ [e]) = true := by
  rw [linkOrdered_concat, ho, Option.or_none, hnext]
  rfl

/-- A handshake never continues in TX or WAIT_ACK: the next request is a flush (R90, R97). -/
theorem success_state (s : State) : (success s).state ≠ .tx ∧ (success s).state ≠ .waitAck := by
  rcases success_cases s with ⟨_, h⟩ | ⟨_, _, h⟩ | ⟨_, _, h⟩ | ⟨_, _, h⟩ | ⟨_, _, h⟩ | ⟨_, h⟩ <;>
    simp [h, buildTail_eq]

/-- After a read that did not fail the settle delay may start (R108). -/
theorem wireOrder_success {s : State} {timeout : Half} {r : ReadOutcome} (hr : r ≠ .err)
    (ho : linkOrdered none s.env.link = true) (hlast : s.env.link.getLast? = some (.read timeout r)) :
    WireOrder (success s) := by
  obtain ⟨htx, hwait⟩ := success_state s
  refine wireOrder_of_ordered ?_ htx hwait
  rcases success_cases s with ⟨_, h⟩ | ⟨_, _, h⟩ | ⟨_, _, h⟩ | ⟨_, _, h⟩ | ⟨_, _, h⟩ | ⟨_, h⟩ <;> rw [h]
  case inr.inr.inr.inr.inr =>
    refine ordered_concat ho ?_
    rw [hlast]
    cases r with
    | err => exact absurd rfl hr
    | byte | timeout => rfl
  all_goals exact ho

theorem wireOrder_flushStep (ok : Bool) {s : State} (hs : WireOrder s) : WireOrder (flushStep ok s) := by
  have ho : linkOrdered none (s.env.link ++ [.flush ok]) = true := ordered_concat hs.ordered rfl
  cases ok with
  | true => exact ⟨ho, fun _ => List.getLast?_concat, (nomatch ·)⟩
  | false => exact wireOrder_of_ordered ho (by simp [flushStep, transportError]) (by simp [flushStep, transportError])

theorem wireOrder_txStep (ok : Bool) {s : State} (hs : WireOrder s) (hstate : s.state = .tx) :
    WireOrder (txStep ok s) := by
  have ho : linkOrdered none (s.env.link ++ [.write s.txFrame ok]) = true :=
    ordered_concat hs.ordered (by rw [hs.beforeWrite hstate]; rfl)
  cases ok with
  | true => exact ⟨ho, (nomatch ·), fun _ => ⟨_, List.getLast?_concat⟩⟩
  | false => exact wireOrder_of_ordered ho (by simp [txStep, transportError]) (by simp [txStep, transportError])

theorem wireOrder_waitAckStep (r : ReadOutcome) {s : State} (hs : WireOrder s) (hstate : s.state = .waitAck) :
    WireOrder (waitAckStep r s) := by
  obtain ⟨f, hlast⟩ := hs.beforeRead hstate
  have ho : linkOrdered none (s.env.link ++ [.read (ackTimeout s) r]) = true :=
    ordered_concat hs.ordered (by rw [hlast]; rfl)
  rcases waitAckStep_cases r s with ⟨v, l, c, x, y, k, h, _⟩ | ⟨hr, v, l, n, m, h⟩ <;> rw [h]
  · exact wireOrder_of_ordered ho (by simp) (by simp)
  · exact wireOrder_success hr ho List.getLast?_concat

/-- Only the FLUSH, TX and WAIT_ACK steps ask anything of the link, and no other move enters TX or WAIT_ACK. -/
theorem move_keeps_wireOrder {s t : State} (h : Move s t) (hs : WireOrder s) : WireOrder t := by
  cases h with
  | flush ok => exact wireOrder_flushStep ok hs
  | tx ok hstate => exact wireOrder_txStep ok hs hstate
  | waitAck r hstate => exact wireOrder_waitAckStep r hs hstate
  | store off v =>
    refine ⟨?_, ?_, ?_⟩ <;> rw [hostStore_env]
    · exact hs.ordered
    · rw [hostStore_state]; exact hs.beforeWrite
    · rw [hostStore_state]; exact hs.beforeRead
  | send | start | chunk | acceptError | clear | reset | settle =>
    exact wireOrder_of_ordered hs.ordered (by simp) (by simp)
  | same | overrun | crc | decode | read => exact ⟨hs.ordered, hs.beforeWrite, hs.beforeRead⟩

/-- Settles O39: every move of the block keeps the order of the link requests. -/
theorem stepKeepsTheWireOrder : Obligations.StepKeepsTheWireOrder := by
  intro s t hs h
  exact step_keeps (P := WireOrder) (fun _ _ hs => ⟨hs.ordered, hs.beforeWrite, hs.beforeRead⟩)
    (fun _ hs => ⟨hs.ordered, hs.beforeWrite, hs.beforeRead⟩) move_keeps_wireOrder hs h

end Sys2Proof.LinkProofs
end

section
/-! PROOFS. The host window and the canonical memory (20_memory.md R42, R43, R47, R48, R49, R55; 45_control.md R132, R133,
R135): what a host access does, and when a step is not defined. -/

namespace Sys2Proof.MemoryProofs

open Sys2Proof Sys2Proof.Machine Sys2Proof.Safety Sys2Proof.StateProofs Sys2Proof.LinkProofs

/-! ### Canonical memory (log 11) -/

/-- In canonical form the listed cells are the addresses that read a byte other than that of an unlisted address. -/
theorem mem_cells_iff_read {m : Memory} (h : m.wf) (c : Host.Cell) :
    c ∈ m.cells ↔ m.read c.1 = c.2 ∧ c.2 ≠ Memory.unlisted := by
  obtain ⟨hsorted, hlisted⟩ := h
  refine ⟨fun hc => ⟨lookupCell_of_mem hsorted hc, hlisted c hc⟩, fun ⟨hread, hne⟩ => ?_⟩
  obtain ⟨d, hd, haddr⟩ : ∃ d ∈ m.cells, d.1 = c.1 := by
    by_contra hmissing
    push Not at hmissing
    exact hne (hread.symm.trans (lookupCell_of_missing m.cells c.1 hmissing))
  have hbyte : d.2 = c.2 := by rw [← hread, ← haddr]; exact (lookupCell_of_mem hsorted hd).symm
  rwa [← Prod.ext haddr hbyte]

/-- Two canonical memories that read alike list the same cells, and in the same order. -/
theorem memory_eq_of_read_eq {m m' : Memory} (h : m.wf) (h' : m'.wf) (hread : ∀ a, m.read a = m'.read a) :
    m = m' := by
  have hmem : ∀ c, c ∈ m.cells ↔ c ∈ m'.cells := fun c => by
    rw [mem_cells_iff_read h, mem_cells_iff_read h', hread]
  have hperm : m.cells.Perm m'.cells :=
    (List.perm_ext_iff_of_nodup (h.1.imp fun hlt heq => by simp [heq] at hlt)
      (h'.1.imp fun hlt heq => by simp [heq] at hlt)).2 hmem
  have hcells : m.cells = m'.cells :=
    hperm.eq_of_pairwise (fun c d _ _ hcd hdc => absurd hdc (Nat.lt_asymm hcd)) h.1 h'.1
  cases m
  cases m'
  exact congrArg Memory.mk hcells

/-- Settles O59: the reads of a canonical memory say which cells it lists, and the order of the cells is fixed. -/
theorem canonicalMemoryIsDeterminedByItsReads : Obligations.CanonicalMemoryIsDeterminedByItsReads :=
  fun m _ base bs h h' => ⟨memory_eq_of_read_eq h h', wf_write m base bs h⟩

/-! ### The word an access acts on (R47) -/

@[simp] theorem wordAddr_masked (off : Offset) : wordAddr (off &&& ~~~3) = wordAddr off := by
  rw [wordAddr, BitVec.and_assoc, BitVec.and_self, wordAddr]

/-- Ignoring bits 1:0 rounds an offset down to a multiple of four. -/
theorem wordAddr_eq (off : Offset) : wordAddr off = off.toNat / 4 * 4 := by
  have hshift : off &&& ~~~(3 : Offset) = off >>> 2 <<< 2 := by
    refine BitVec.eq_of_getLsbD_eq fun i hi => ?_
    have hthree : (3 : Offset).getLsbD i = decide (i < 2) := by
      interval_cases i <;> rfl
    simp only [BitVec.getLsbD_and, BitVec.getLsbD_not, BitVec.getLsbD_shiftLeft, BitVec.getLsbD_ushiftRight, hthree,
      hi, decide_true, Bool.true_and]
    by_cases h : i < 2
    · simp [h]
    · simp [h, show 2 + (i - 2) = i by omega]
  rw [wordAddr, hshift, BitVec.toNat_shiftLeft, BitVec.toNat_ushiftRight, Nat.shiftLeft_eq, Nat.shiftRight_eq_div_pow]
  exact Nat.mod_eq_of_lt (by have := off.isLt; omega)

/-- An aligned offset is the address of its own word. -/
theorem wordAddr_ofNat {a : Nat} (haligned : a % 4 = 0) (hwindow : a < 8192) : wordAddr (BitVec.ofNat 13 a) = a := by
  rw [wordAddr_eq, BitVec.toNat_ofNat]
  omega

theorem wordAddr_eq_cmd_iff (off : Offset) : wordAddr off = wordAddr cmdOffset ↔ off &&& ~~~3 = 0x004 :=
  BitVec.toNat_inj (x := off &&& ~~~3) (y := 0x004)

/-! ### Host writes to `CMD` and elsewhere (R49, R127, R132) -/

theorem onHostWrite_cmd {off : Offset} (h : off &&& ~~~3 = 0x004) (w : Word) (s : State) :
    onHostWrite off w s = onCmdWrite w s :=
  if_pos ((wordAddr_eq_cmd_iff off).2 h)

theorem onHostWrite_store {off : Offset} (h : off &&& ~~~3 ≠ 0x004) (v : Word) (s : State) :
    onHostWrite off v s = .next (hostStore off v s) :=
  if_neg fun hcmd => h ((wordAddr_eq_cmd_iff off).1 hcmd)

theorem onCmdWrite_legal {w : Word} {i : Instr} (h : decode w = some i) (s : State) : onCmdWrite w s = exec i s := by
  simp only [onCmdWrite, h]

theorem step_of_hostWrite {s : State} {off : Offset} {v : Word} {rest : List Event}
    (h : s.env.inputs = .hostWrite off v :: rest) : step s = onHostWrite off v (s.withInputs rest) :=
  step_of_scheduled h

/-- A scheduled write outside `CMD` is the store of its word. -/
theorem step_of_store {s : State} {off : Offset} {v : Word} {rest : List Event}
    (h : s.env.inputs = .hostWrite off v :: rest) (hcmd : off &&& ~~~3 ≠ 0x004) :
    step s = .next (hostStore off v (s.withInputs rest)) :=
  (step_of_hostWrite h).trans (onHostWrite_store hcmd v _)

/-- Settles O5: the offset names the word of `CMD`, whose write runs the decoded command. -/
theorem stepRunsTheDecodedCommand : Obligations.StepRunsTheDecodedCommand := by
  intro s off w rest i hinputs hoff hdecode
  calc step s = onHostWrite off w (s.withInputs rest) := step_of_hostWrite hinputs
    _ = onCmdWrite w (s.withInputs rest) := onHostWrite_cmd hoff w _
    _ = exec i (s.withInputs rest) := onCmdWrite_legal hdecode _

/-! ### Steps that are not defined (R47, R135) -/

/-- Every command answers a next state. -/
theorem exec_next (i : Instr) (s : State) : ∃ t, exec i s = .next t := by
  cases i <;> exact ⟨_, rfl⟩

/-- Every host write answers a next state. -/
theorem onHostWrite_next (off : Offset) (v : Word) (s : State) : ∃ t, onHostWrite off v s = .next t := by
  by_cases h : off &&& ~~~3 = 0x004
  · rw [onHostWrite_cmd h, onCmdWrite]
    split
    · exact exec_next _ s
    · exact ⟨_, rfl⟩
  · exact ⟨_, onHostWrite_store h v s⟩

/-- An engine step answers a next state exactly where its draw fits, and is undefined elsewhere (R135). -/
theorem engineStep_cases (d : Draw) (s : State) :
    (drawFits s.state d = true ∧ ∃ t, engineStep d s = .next t) ∨
      (drawFits s.state d = false ∧ engineStep d s = .fault .undefinedEvent) := by
  cases hfits : drawFits s.state d with
  | true =>
    refine .inl ⟨rfl, ?_⟩
    unfold drawFits at hfits
    split at hfits
    case h_9 => cases hfits
    all_goals
      rename_i hs
      simp only [engineStep, hs]
      exact ⟨_, rfl⟩
  | false =>
    refine .inr ⟨rfl, ?_⟩
    unfold engineStep
    split
    case h_9 => rfl
    all_goals
      rename_i hs
      rw [hs] at hfits
      cases hfits

/-- A free draw fits the state it is drawn in (R94, log 2). -/
theorem drawFits_of_freeDraw {s : State} {d : Draw} (h : freeDraw s = some d) : drawFits s.state d = true := by
  unfold freeDraw at h
  cases hs : s.state <;> rw [hs] at h
  case idle | waitChunk | error => cases h
  case flush => cases h; split <;> rfl
  case tx => cases h; split <;> rfl
  case waitAck => cases h; split <;> rfl
  case settle => cases h; rfl

theorem unscheduled_next (s : State) : ∃ t, unscheduled s = .next t := by
  unfold unscheduled
  split
  next d hd =>
    rcases engineStep_cases d (countDraw s) with ⟨_, hnext⟩ | ⟨hfits, _⟩
    · exact hnext
    · rw [countDraw_state, drawFits_of_freeDraw hd] at hfits
      cases hfits
  next => exact ⟨s, rfl⟩

/-- The next event is an engine step that the relation of R135 does not define. -/
def UndefinedNext (s : State) : Prop :=
  ∃ d rest, s.env.inputs = .engineStep d :: rest ∧ drawFits s.state d = false

/-- A step answers a next state, but for an undefined engine step, which stops the model (log 3). -/
theorem step_cases (s : State) :
    ((∃ t, step s = .next t) ∧ ¬ UndefinedNext s) ∨ (step s = .fault .undefinedEvent ∧ UndefinedNext s) := by
  have defined : (∀ d rest, s.env.inputs ≠ .engineStep d :: rest) → ¬ UndefinedNext s :=
    fun hne ⟨d, rest, hinputs, _⟩ => hne d rest hinputs
  cases hinputs : s.env.inputs with
  | nil =>
    have hstep : step s = unscheduled s := by simp only [step, nextEvent, hinputs]
    exact .inl ⟨hstep ▸ unscheduled_next s, defined (by simp [hinputs])⟩
  | cons e rest =>
    rw [step_of_scheduled hinputs]
    cases e with
    | hostRead off => exact .inl ⟨⟨_, rfl⟩, defined (by simp [hinputs])⟩
    | hostWrite off v => exact .inl ⟨onHostWrite_next off v _, defined (by simp [hinputs])⟩
    | resetInput => exact .inl ⟨⟨_, rfl⟩, defined (by simp [hinputs])⟩
    | engineStep d =>
      rcases engineStep_cases d (s.withInputs rest) with ⟨hfits, hnext⟩ | ⟨hfits, hfault⟩
      · refine .inl ⟨hnext, fun ⟨d', rest', hinputs', hunfit⟩ => ?_⟩
        rw [hinputs] at hinputs'
        cases hinputs'
        exact absurd (hfits.symm.trans hunfit) (by simp)
      · exact .inr ⟨hfault, d, rest, hinputs, hfits⟩

/-- Settles O9: a step that is not an undefined engine step answers a next state. -/
theorem stopsOnlyOnUndefinedEngineSteps : Obligations.StopsOnlyOnUndefinedEngineSteps := by
  intro s
  change ((∃ f, step s = .fault f) ↔ UndefinedNext s) ∧ _
  rcases step_cases s with ⟨⟨t, hnext⟩, hdefined⟩ | ⟨hfault, hundefined⟩
  · rw [hnext]
    exact ⟨⟨fun ⟨_, h⟩ => (nomatch h), fun h => absurd h hdefined⟩, fun _ => (nomatch ·)⟩
  · rw [hfault]
    exact ⟨⟨fun _ => hundefined, fun _ => ⟨_, rfl⟩⟩, fun _ => (nomatch ·)⟩

/-! ### Words of the window that no register holds (R42, R43, R48) -/

theorem hostLoad_buffer {off : Offset} (h : 0x070 ≤ wordAddr off) (s : State) :
    hostLoad off s = windowWord s (wordAddr off) := by
  simp only [hostLoad, regAt_none h]

theorem hostStore_buffer {off : Offset} (h : 0x070 ≤ wordAddr off) (v : Word) (s : State) :
    hostStore off v s = storeWord (wordAddr off) v s := by
  simp only [hostStore, regAt_none h]

theorem windowWord_reserved {a : Nat} (h : ∀ j, j < 4 → inBuffer (a + j) = false) (s : State) : windowWord s a = 0 := by
  unfold windowWord
  rw [windowByte_outside (a := a) (h 0 (by omega)), windowByte_outside (h 1 (by omega)), windowByte_outside (h 2 (by omega)),
    windowByte_outside (h 3 (by omega))]
  rfl

/-- `CMD` and the reserved words read 0 in every state (R48). -/
theorem hostLoad_of_readsZero {off : Offset} (h : readsZero (wordAddr off) = true) (s : State) : hostLoad off s = 0 := by
  have hwhere : wordAddr off = 0x004 ∨ 0x070 ≤ wordAddr off ∧ ∀ j, j < 4 → inBuffer (wordAddr off + j) = false := by
    simp only [readsZero, Bool.or_eq_true, Bool.and_eq_true, beq_iff_eq, decide_eq_true_eq] at h
    refine or_iff_not_imp_left.2 fun _ => ⟨by omega, fun j hj => ?_⟩
    rw [← Bool.not_eq_true, inBuffer_iff]
    omega
  rcases hwhere with hcmd | ⟨habove, hreserved⟩
  · exact hostLoad_reg (r := .cmd) (by rw [hcmd]; rfl) s
  · rw [hostLoad_buffer habove, windowWord_reserved hreserved]

/-- An access acts on its word, so two offsets of one word are alike (R47). -/
theorem hostLoad_masked (off : Offset) (s : State) : hostLoad (off &&& ~~~3) s = hostLoad off s := by
  simp only [hostLoad, wordAddr_masked]

theorem onHostWrite_masked (off : Offset) (v : Word) (s : State) :
    onHostWrite (off &&& ~~~3) v s = onHostWrite off v s := by
  simp only [onHostWrite, hostStore, wordAddr_masked]

/-- Settles O56: an access depends on its offset through the word address alone. -/
theorem hostAccessesNeverFaultAndIgnoreLowOffsetBits : Obligations.HostAccessesNeverFaultAndIgnoreLowOffsetBits := by
  intro s off v rest
  refine ⟨fun h => step_of_scheduled h, fun h => ?_, step_of_store, (hostLoad_masked off s).symm,
    (onHostWrite_masked off v s).symm, fun h => hostLoad_of_readsZero h s⟩
  rw [step_of_hostWrite h]
  exact onHostWrite_next off v _

/-! ### Writes that change nothing (R42, R48) -/

/-- The registers whose word a host write leaves alone: the read only ones and, since it never comes to `writeReg`,
`CMD` (R14, R132). -/
def storesNothing : Reg → Bool
  | .ctrl | .status | .len | .addr | .chunkLen | .toHead | .toData | .toTail | .toRaw | .settle | .rxfLen => false
  | .cmd | .crc | .seq | .nsent | .remain | .progSent | .progTotal | .silentRun | .silentTotal | .txfLen | .rxInfo
  | .rxCrc | .rxLen | .rxAddr | .rxTrack | .rxCnt | .errInfo => true

theorem writeReg_of_storesNothing {r : Reg} (h : storesNothing r = true) (v : Word) (s : State) :
    writeReg r v s = s := by
  cases r
  case ctrl | status | len | addr | chunkLen | toHead | toData | toTail | toRaw | settle | rxfLen => cases h
  all_goals rfl

theorem storeWord_outside {a : Nat} (h : a < 0x400 ∨ 0xC05 ≤ a) (v : Word) (s : State) : storeWord a v s = s := by
  have hout : ∀ r, r = chunkRegion ∨ r = rxfRegion → ¬ r.contains a = true := by
    rintro r (rfl | rfl) <;> rw [contains_iff] <;> simp only [chunkRegion, rxfRegion] <;> omega
  rw [storeWord, if_neg (hout _ (.inl rfl)), if_neg (hout _ (.inr rfl))]

/-- A store to a read only register, to `TXF` or to a reserved word changes nothing. -/
theorem hostStore_of_ignoresWrites {off : Offset} (h : ignoresWrites (wordAddr off) = true) (v : Word) (s : State) :
    hostStore off v s = s := by
  simp only [ignoresWrites, Bool.or_eq_true, Bool.and_eq_true, decide_eq_true_eq, List.contains_iff_mem,
    or_assoc] at h
  rcases h with hlisted | hout
  · have readOnly : ∀ a ∈ [0x00C, 0x01C, 0x020, 0x024, 0x028, 0x02C, 0x030, 0x034, 0x04C, 0x054, 0x058, 0x05C, 0x060,
        0x064, 0x068, 0x06C], ∃ r, regAt a = some r ∧ storesNothing r = true := by
      simp only [List.forall_mem_cons, List.not_mem_nil, false_imp_iff, implies_true, and_true]
      refine ⟨?_, ?_, ?_, ?_, ?_, ?_, ?_, ?_, ?_, ?_, ?_, ?_, ?_, ?_, ?_, ?_⟩ <;> exact ⟨_, rfl, rfl⟩
    obtain ⟨r, hreg, hro⟩ := readOnly _ hlisted
    rw [hostStore_reg hreg, writeReg_of_storesNothing hro]
  · rw [hostStore_buffer (by omega), storeWord_outside (by omega)]

/-- Settles O53: the word belongs to a register that stores nothing, or lies outside `CHUNK` and `RXF`. -/
theorem readOnlyAndReservedWritesAreIgnored : Obligations.ReadOnlyAndReservedWritesAreIgnored := by
  intro s off v rest hinputs hignored
  have hcmd : off &&& ~~~3 ≠ 0x004 := fun h => by rw [h] at hignored; cases hignored
  rw [step_of_store hinputs hcmd, hostStore_of_ignoresWrites hignored]

end Sys2Proof.MemoryProofs
end

section
/-! PROOFS. Host stores (20_memory.md R42, R43, R45, R55; 45_control.md R132): how the bytes of a word stand in a buffer,
and what a store leaves alone. -/

namespace Sys2Proof.StoreProofs

open Sys2Proof Sys2Proof.Machine Sys2Proof.Safety Sys2Proof.StateProofs Sys2Proof.LinkProofs Sys2Proof.MemoryProofs

/-! ### The bytes of a word (R43, R45) -/

/-- Bit `k` of byte `j` of a word is bit `8 * j + k` of the word, so the four bytes determine the word. -/
theorem word_eq_of_bytes {x y : Word} (h : ∀ j, j < 4 → x.extractLsb' (8 * j) 8 = y.extractLsb' (8 * j) 8) : x = y := by
  refine BitVec.eq_of_getLsbD_eq fun i hi => ?_
  have hbit := congrArg (fun b : Byte => b.getLsbD (i % 8)) (h (i / 8) (by omega))
  simpa [BitVec.getLsbD_extractLsb', Nat.mod_lt, Nat.div_add_mod] using hbit

/-- Byte `j` of a word of the window is the byte at its place. -/
theorem windowWord_byte (s : State) (a : Nat) {j : Nat} (hj : j < 4) :
    (windowWord s a).extractLsb' (8 * j) 8 = windowByte s (a + j) := by
  unfold windowWord ofLe32
  refine BitVec.eq_of_getLsbD_eq fun i hi => ?_
  simp only [BitVec.getLsbD_extractLsb', BitVec.getLsbD_append, hi, decide_true, Bool.true_and]
  interval_cases j <;> grind

theorem hostLoad_byte {off : Offset} {a : Nat} (haddr : wordAddr off = a) (ha : 0x070 ≤ a) (s : State) {j : Nat}
    (hj : j < 4) : (hostLoad off s).extractLsb' (8 * j) 8 = windowByte s (a + j) := by
  subst haddr
  rw [hostLoad_buffer ha, windowWord_byte s _ hj]

/-- Masking with 0xFF keeps byte 0 and clears the others. -/
theorem and_byte_mask (v : Word) {j : Nat} (hj : j < 4) :
    (v &&& 0x000000FF).extractLsb' (8 * j) 8 = if j = 0 then v.extractLsb' 0 8 else 0 := by
  have hmask : (0x000000FF : Word).extractLsb' (8 * j) 8 = if j = 0 then BitVec.allOnes 8 else 0 := by
    interval_cases j <;> rfl
  rw [BitVec.extractLsb'_and, hmask]
  split
  next h => rw [h, Nat.mul_zero, BitVec.and_allOnes]
  next => simp

/-! ### Reads of the buffers (R42, R43) -/

/-- A read of a word of `CHUNK` shows the four bytes it covers. -/
theorem hostLoad_chunk_byte {i j : Nat} (hi : i < 256) (hj : j < 4) (s : State) :
    (hostLoad (BitVec.ofNat 13 (0x400 + 4 * i)) s).extractLsb' (8 * j) 8 = s.mem.read (0x400 + 4 * i + j) := by
  rw [hostLoad_byte (wordAddr_ofNat (by omega) (by omega)) (by omega) s hj]
  exact windowByte_inside ((inBuffer_iff _).2 (by omega))

/-- A read of a word of `RXF` or `TXF` shows the bytes it covers: the last word covers byte 1028 alone. -/
theorem hostLoad_frame_byte {base i j : Nat} (hbase : base = 0x800 ∨ base = 0x1000) (hi : i < 258) (hj : j < 4)
    (s : State) : (hostLoad (BitVec.ofNat 13 (base + 4 * i)) s).extractLsb' (8 * j) 8 =
      if i = 257 ∧ j ≠ 0 then 0x00 else s.mem.read (base + 4 * i + j) := by
  rw [hostLoad_byte (wordAddr_ofNat (by omega) (by omega)) (by omega) s hj]
  have hinside : inBuffer (base + 4 * i + j) = true ↔ ¬ (i = 257 ∧ j ≠ 0) := by
    rw [inBuffer_iff]
    omega
  split
  next hpast => exact windowByte_outside (by rw [← Bool.not_eq_true, hinside]; exact not_not_intro hpast)
  next hcovered => exact windowByte_inside (hinside.2 hcovered)

/-! ### Stores to the buffers (R42, R43) -/

theorem storeWord_chunk {a : Nat} (h : 0x400 ≤ a ∧ a < 0x800) (v : Word) (s : State) :
    storeWord a v s = storeIn chunkRegion a v s :=
  if_pos ((contains_iff _ _).2 h)

theorem storeWord_rxf {a : Nat} (h : 0x800 ≤ a ∧ a < 0xC05) (v : Word) (s : State) :
    storeWord a v s = storeIn rxfRegion a v s := by
  have hchunk : ¬ chunkRegion.contains a = true := by
    rw [contains_iff]
    simp only [chunkRegion]
    omega
  rw [storeWord, if_neg hchunk, if_pos ((contains_iff _ _).2 h)]

theorem hostStore_chunk {i : Nat} (hi : i < 256) (v : Word) (s : State) :
    hostStore (BitVec.ofNat 13 (0x400 + 4 * i)) v s = storeIn chunkRegion (0x400 + 4 * i) v s := by
  have haddr : wordAddr (BitVec.ofNat 13 (0x400 + 4 * i)) = 0x400 + 4 * i := wordAddr_ofNat (by omega) (by omega)
  rw [hostStore_buffer (by omega), haddr, storeWord_chunk (by omega)]

theorem hostStore_rxf {i : Nat} (hi : i < 258) (v : Word) (s : State) :
    hostStore (BitVec.ofNat 13 (0x800 + 4 * i)) v s = storeIn rxfRegion (0x800 + 4 * i) v s := by
  have haddr : wordAddr (BitVec.ofNat 13 (0x800 + 4 * i)) = 0x800 + 4 * i := wordAddr_ofNat (by omega) (by omega)
  rw [hostStore_buffer (by omega), haddr, storeWord_rxf (by omega)]

/-- A word stored in `CHUNK`, and what it leaves alone. -/
theorem chunk_store {i : Nat} (hi : i < 256) (v : Word) (s : State) :
    ∃ t, hostStore (BitVec.ofNat 13 (0x400 + 4 * i)) v s = t ∧ t = { s with mem := t.mem } ∧
      (∀ j, j < 4 → t.mem.read (0x400 + 4 * i + j) = v.extractLsb' (8 * j) 8) ∧
      (∀ a, (a < 0x400 + 4 * i ∨ 0x400 + 4 * i + 4 ≤ a) → t.mem.read a = s.mem.read a) ∧
      hostLoad (BitVec.ofNat 13 (0x400 + 4 * i)) t = v := by
  have hwhole : min (chunkRegion.base + chunkRegion.size - (0x400 + 4 * i)) 4 = 4 := by
    simp only [chunkRegion]
    omega
  obtain ⟨honly, hin, hout⟩ := storeIn_reads v s hwhole
  refine ⟨_, hostStore_chunk hi v s, honly, hin, hout, word_eq_of_bytes fun j hj => ?_⟩
  rw [hostLoad_chunk_byte hi hj, hin j hj]

/-- A word stored in `RXF`, and what it leaves alone: of the last word, byte 0 is stored. -/
theorem rxf_store {i : Nat} (hi : i < 258) (v : Word) (s : State) :
    ∃ t, hostStore (BitVec.ofNat 13 (0x800 + 4 * i)) v s = t ∧ t = { s with mem := t.mem } ∧
      (∀ j, j < (if i = 257 then 1 else 4) → t.mem.read (0x800 + 4 * i + j) = v.extractLsb' (8 * j) 8) ∧
      (∀ a, (a < 0x800 + 4 * i ∨ 0x800 + 4 * i + (if i = 257 then 1 else 4) ≤ a) → t.mem.read a = s.mem.read a) ∧
      hostLoad (BitVec.ofNat 13 (0x800 + 4 * i)) t = (if i = 257 then v &&& 0x000000FF else v) := by
  have hpart : min (rxfRegion.base + rxfRegion.size - (0x800 + 4 * i)) 4 = if i = 257 then 1 else 4 := by
    simp only [rxfRegion]
    split <;> omega
  obtain ⟨honly, hin, hout⟩ := storeIn_reads v s hpart
  refine ⟨_, hostStore_rxf hi v s, honly, hin, hout, word_eq_of_bytes fun j hj => ?_⟩
  rw [hostLoad_frame_byte (.inl rfl) hi hj]
  by_cases hlast : i = 257
  · rw [if_pos hlast, and_byte_mask v hj]
    by_cases hj0 : j = 0
    · rw [if_neg (fun h => h.2 hj0), if_pos hj0, hin j (by rw [if_pos hlast]; omega), hj0]
    · rw [if_pos ⟨hlast, hj0⟩, if_neg hj0]
  · rw [if_neg (fun h => hlast h.1), if_neg hlast, hin j (by rw [if_neg hlast]; exact hj)]

/-- Settles O55: byte by byte, since its four bytes determine a word. -/
theorem bufferWordsArePackedLittleEndian : Obligations.BufferWordsArePackedLittleEndian := by
  intro s v i
  exact ⟨fun hi => chunk_store hi v s, fun hi => rxf_store hi v s, fun hi j hj => hostLoad_chunk_byte hi hj s,
    fun hi j hj => ⟨hostLoad_frame_byte (.inl rfl) hi hj s, hostLoad_frame_byte (.inr rfl) hi hj s⟩⟩

/-! ### What a store leaves alone (R49, R55, R132) -/

/-- Everything a store can do: write a register, write bytes of the word at its place in `CHUNK` or `RXF`, or
nothing. -/
theorem hostStore_cases (off : Offset) (v : Word) (s : State) :
    (∃ r, regAt (wordAddr off) = some r ∧ hostStore off v s = writeReg r v s) ∨
    (regAt (wordAddr off) = none ∧ ((∃ region, (region = chunkRegion ∨ region = rxfRegion) ∧
      region.contains (wordAddr off) = true ∧ hostStore off v s = storeIn region (wordAddr off) v s) ∨
      hostStore off v s = s)) := by
  unfold hostStore
  cases hreg : regAt (wordAddr off) with
  | some r => exact .inl ⟨r, rfl, rfl⟩
  | none =>
    refine .inr ⟨rfl, ?_⟩
    dsimp only
    unfold storeWord
    split
    next hin => exact .inl ⟨_, .inl rfl, hin, rfl⟩
    next =>
      split
      next hin => exact .inl ⟨_, .inr rfl, hin, rfl⟩
      next => exact .inr rfl

/-- A register write changes the field of its register alone, and no memory. -/
theorem writeReg_keeps (r : Reg) (v : Word) (s : State) :
    (r ≠ .status → (writeReg r v s).done = s.done ∧ (writeReg r v s).ovr = s.ovr) ∧
    (r ≠ .ctrl → (writeReg r v s).ctrl = s.ctrl) ∧ (r ≠ .len → (writeReg r v s).len = s.len) ∧
    (r ≠ .addr → (writeReg r v s).addr = s.addr) ∧ (r ≠ .chunkLen → (writeReg r v s).chunkLen = s.chunkLen) ∧
    (r ≠ .toHead → (writeReg r v s).timeouts.head = s.timeouts.head) ∧
    (r ≠ .toData → (writeReg r v s).timeouts.data = s.timeouts.data) ∧
    (r ≠ .toTail → (writeReg r v s).timeouts.tail = s.timeouts.tail) ∧
    (r ≠ .toRaw → (writeReg r v s).timeouts.raw = s.timeouts.raw) ∧
    (r ≠ .settle → (writeReg r v s).timeouts.settle = s.timeouts.settle) ∧
    (r ≠ .rxfLen → (writeReg r v s).rxfLen = s.rxfLen) ∧ (writeReg r v s).mem = s.mem := by
  cases r <;> simp [writeReg, writeCtrl, writeStatus]

/-- A register that stands at one word address is not the one at another. -/
theorem regAt_ne {a n : Nat} {r r' : Reg} (hreg : regAt a = some r) (hmap : ∀ e ∈ regMap, e.2 = r' → e.1 = n)
    (ha : a ≠ n) : r ≠ r' := by
  rintro rfl
  obtain ⟨e, hfind, hr⟩ := Option.map_eq_some_iff.1 hreg
  have haddr : e.1 = a := by simpa using List.find?_some hfind
  exact ha (haddr.symm.trans (hmap e (List.mem_of_find?_eq_some hfind) hr))

/-- Which fields a store at word address `a` leaves as they were (R132). -/
structure StoreKeeps (a : Nat) (s t : State) : Prop where
  flags : a ≠ 0x008 → t.done = s.done ∧ t.ovr = s.ovr
  ctrl : a ≠ 0x000 → t.ctrl = s.ctrl
  len : a ≠ 0x010 → t.len = s.len
  addr : a ≠ 0x014 → t.addr = s.addr
  chunkLen : a ≠ 0x018 → t.chunkLen = s.chunkLen
  toHead : a ≠ 0x038 → t.timeouts.head = s.timeouts.head
  toData : a ≠ 0x03C → t.timeouts.data = s.timeouts.data
  toTail : a ≠ 0x040 → t.timeouts.tail = s.timeouts.tail
  toRaw : a ≠ 0x044 → t.timeouts.raw = s.timeouts.raw
  settle : a ≠ 0x048 → t.timeouts.settle = s.timeouts.settle
  rxfLen : a ≠ 0x050 → t.rxfLen = s.rxfLen
  memBelowChunk : a < 0x400 → t.mem = s.mem
  memOutsideBuffers : ∀ x, chunkRegion.contains x = false → rxfRegion.contains x = false →
    t.mem.read x = s.mem.read x
  memOutsideWord : ∀ x, (x < a ∨ a + 4 ≤ x) → t.mem.read x = s.mem.read x

theorem storeKeeps_refl (a : Nat) (s : State) : StoreKeeps a s s := by
  constructor <;> simp

theorem storeKeeps_writeReg {a : Nat} {r : Reg} (hreg : regAt a = some r) (v : Word) (s : State) :
    StoreKeeps a s (writeReg r v s) := by
  obtain ⟨hflags, hctrl, hlen, haddr, hchunkLen, hhead, hdata, htail, hraw, hsettle, hrxfLen, hmem⟩ :=
    writeReg_keeps r v s
  exact {
    flags := fun h => hflags (regAt_ne hreg (by decide) h)
    ctrl := fun h => hctrl (regAt_ne hreg (by decide) h)
    len := fun h => hlen (regAt_ne hreg (by decide) h)
    addr := fun h => haddr (regAt_ne hreg (by decide) h)
    chunkLen := fun h => hchunkLen (regAt_ne hreg (by decide) h)
    toHead := fun h => hhead (regAt_ne hreg (by decide) h)
    toData := fun h => hdata (regAt_ne hreg (by decide) h)
    toTail := fun h => htail (regAt_ne hreg (by decide) h)
    toRaw := fun h => hraw (regAt_ne hreg (by decide) h)
    settle := fun h => hsettle (regAt_ne hreg (by decide) h)
    rxfLen := fun h => hrxfLen (regAt_ne hreg (by decide) h)
    memBelowChunk := fun _ => hmem
    memOutsideBuffers := fun _ _ _ => by rw [hmem]
    memOutsideWord := fun _ _ => by rw [hmem] }

/-- A store into a buffer writes bytes of the word that are bytes of the buffer, so it lies above the registers. -/
theorem storeKeeps_storeIn {region : Region} (hregion : region = chunkRegion ∨ region = rxfRegion) {a : Nat}
    (hin : region.contains a = true) (v : Word) (s : State) : StoreKeeps a s (storeIn region a v s) := by
  obtain ⟨-, -, houtside⟩ := storeIn_reads v s (r := region) (a := a) rfl
  rw [contains_iff] at hin
  have habove : 0x400 ≤ a := by
    rcases hregion with rfl | rfl <;> simp only [chunkRegion, rxfRegion] at hin <;> omega
  refine { storeKeeps_refl a s with
    memBelowChunk := fun h => absurd h (by omega)
    memOutsideBuffers := fun x hchunk hrxf => houtside x ?_
    memOutsideWord := fun x hx => houtside x (by omega) }
  have hx : ¬ region.contains x = true := by
    rcases hregion with rfl | rfl
    · simp [hchunk]
    · simp [hrxf]
  rw [contains_iff] at hx
  omega

theorem storeKeeps_hostStore (off : Offset) (v : Word) (s : State) :
    StoreKeeps (wordAddr off) s (hostStore off v s) := by
  rcases hostStore_cases off v s with ⟨r, hreg, h⟩ | ⟨_, ⟨region, hregion, hin, h⟩ | h⟩ <;> rw [h]
  · exact storeKeeps_writeReg hreg v s
  · exact storeKeeps_storeIn hregion hin v s
  · exact storeKeeps_refl _ s

/-- A store to `STATUS` clears the flags whose bits are 1 (R132). -/
theorem hostStore_status {off : Offset} (h : wordAddr off = 0x008) (v : Word) (s : State) :
    hostStore off v s = writeStatus v s :=
  hostStore_reg (r := .status) (by rw [h]; rfl) v s

/-- `DONE` and `OVR` are cleared by a 1 in their bit of a write to `STATUS`, and by no other store (R132). -/
theorem hostStore_flags (off : Offset) (v : Word) (s : State) :
    (hostStore off v s).done = (if off &&& ~~~3 = 0x008 then s.done && !v.getLsbD 1 else s.done) ∧
    (hostStore off v s).ovr = (if off &&& ~~~3 = 0x008 then s.ovr && !v.getLsbD 3 else s.ovr) := by
  by_cases h : off &&& ~~~3 = 0x008
  · rw [if_pos h, if_pos h, hostStore_status (congrArg BitVec.toNat h)]
    exact ⟨rfl, rfl⟩
  · rw [if_neg h, if_neg h]
    exact (storeKeeps_hostStore off v s).flags fun haddr => h (BitVec.eq_of_toNat_eq haddr)

/-- Settles O54: the engine's fields and the frame by the frame rule of a store, the rest by what a store keeps. -/
theorem hostWriteLeavesTheEngineAlone : Obligations.HostWriteLeavesTheEngineAlone := by
  intro s off v rest hinputs hcmd
  have keeps := storeKeeps_hostStore off v (s.withInputs rest)
  have at_word : ∀ {n : Offset}, off &&& ~~~3 ≠ n → wordAddr off ≠ n.toNat :=
    fun hne haddr => hne (BitVec.eq_of_toNat_eq haddr)
  obtain ⟨hdone, hovr⟩ := hostStore_flags off v (s.withInputs rest)
  refine ⟨off &&& ~~~3, hostStore off v (s.withInputs rest), rfl, step_of_store hinputs hcmd, hostStore_txFrame .., ?_,
    hdone, hovr, fun h => keeps.ctrl (at_word h), fun h => keeps.len (at_word h), fun h => keeps.addr (at_word h),
    fun h => keeps.chunkLen (at_word h), fun h => keeps.toHead (at_word h), fun h => keeps.toData (at_word h),
    fun h => keeps.toTail (at_word h), fun h => keeps.toRaw (at_word h), fun h => keeps.settle (at_word h),
    fun h => keeps.rxfLen (at_word h), keeps.memBelowChunk, keeps.memOutsideBuffers, keeps.memOutsideWord⟩
  obtain ⟨_, _, _, _, _, _, _, _, _, h, _⟩ := hostStore_frame off v (s.withInputs rest)
  rw [h]

end Sys2Proof.StoreProofs
end

section
/-! PROOFS. Command words (30_encoding.md R58 to R61, R69): the decoder and the encoder are inverse to each other, the
legal words are the words of the commands, and what a word that is not legal does. -/

namespace Sys2Proof.EncodingProofs

open Sys2Proof Sys2Proof.Machine Sys2Proof.Safety Sys2Proof.StateProofs Sys2Proof.MemoryProofs

/-! ### Words and their fields (R58) -/

/-- A word is put together from its three fields. -/
theorem append_fields (w : Word) : wordRsv w ++ wordArg w ++ wordOp w = w := by
  refine BitVec.eq_of_getLsbD_eq fun i hi => ?_
  simp only [wordRsv, wordArg, wordOp, BitVec.getLsbD_append, BitVec.getLsbD_extractLsb']
  grind

theorem encode_fields (i : Instr) :
    wordOp (encode i) = opcode i ∧ wordArg (encode i) = operand i ∧ wordRsv (encode i) = 0 :=
  Laws.word_fields (operand i) (opcode i)

/-- The word of a command is the one with its three fields. -/
theorem encode_eq_iff (i : Instr) (w : Word) :
    encode i = w ↔ wordRsv w = 0 ∧ opcode i = wordOp w ∧ operand i = wordArg w := by
  constructor
  · rintro rfl
    obtain ⟨hop, harg, hrsv⟩ := encode_fields i
    exact ⟨hrsv, hop.symm, harg.symm⟩
  · rintro ⟨hrsv, hop, harg⟩
    rw [encode, hop, harg, ← hrsv, append_fields]

/-! ### The class operand of `SEND.FRAME` (R17, R59) -/

theorem code_ofCode (x : BitVec 2) : (FrameClass.ofCode x).code = x := by
  revert x
  decide

/-- A byte whose bits 7:2 are zero is its bits 1:0. -/
theorem setWidth_low_bits {b : Byte} (h : b.extractLsb' 2 6 = 0) : (b.extractLsb' 0 2).setWidth 8 = b := by
  revert b
  decide

/-! ### The opcode map (R60) -/

theorem guardArg_eq_some {ok : Bool} {i j : Instr} : guardArg ok i = some j ↔ ok = true ∧ i = j := by
  cases ok <;> simp [guardArg]

theorem decodeFields_opcode_operand (i : Instr) : decodeFields (opcode i) (operand i) = some i := by
  cases i with
  | sendFrame c => cases c <;> rfl
  | _ => rfl

/-- A row of the map with no operand answers its command on `ARG` zero alone. -/
theorem fields_of_zeroArg {op arg : Byte} {i j : Instr} (hzero : operand j = 0) (hop : op = opcode j)
    (h : guardArg (arg == 0) j = some i) : opcode i = op ∧ operand i = arg := by
  obtain ⟨harg, rfl⟩ := guardArg_eq_some.1 h
  exact ⟨hop.symm, hzero.trans (eq_of_beq harg).symm⟩

/-- A row of the map whose operand is the whole of `ARG`. -/
theorem fields_of_anyArg {op arg : Byte} {i j : Instr} (harg : operand j = arg) (hop : op = opcode j)
    (h : some j = some i) : opcode i = op ∧ operand i = arg := by
  obtain rfl := Option.some.inj h
  exact ⟨hop.symm, harg⟩

/-- The row of `SEND.FRAME`, whose operand is bits 1:0 of `ARG`. -/
theorem fields_of_classArg {op arg : Byte} {i : Instr} (hop : op = 0x13)
    (h : guardArg (arg.extractLsb' 2 6 == 0) (.sendFrame (.ofCode (arg.extractLsb' 0 2))) = some i) :
    opcode i = op ∧ operand i = arg := by
  obtain ⟨hhigh, rfl⟩ := guardArg_eq_some.1 h
  refine ⟨hop.symm, ?_⟩
  rw [operand, code_ofCode, setWidth_low_bits (eq_of_beq hhigh)]

/-- One row of the map: its own answer, or that of the rows below it. -/
theorem row_cases {op key : Byte} {row below : Option Instr} {i : Instr} {P : Prop}
    (hrow : op = key → row = some i → P) (hbelow : below = some i → P) :
    (if op = key then row else below) = some i → P := by
  intro h
  by_cases hop : op = key
  · exact hrow hop (by rwa [if_pos hop] at h)
  · exact hbelow (by rwa [if_neg hop] at h)

/-- What the opcode map answers has the fields it was read from. -/
theorem fields_of_decodeFields {op arg : Byte} {i : Instr} :
    decodeFields op arg = some i → opcode i = op ∧ operand i = arg := by
  unfold decodeFields
  refine row_cases (fields_of_zeroArg (j := .nop) rfl) ?_
  refine row_cases (fields_of_zeroArg (j := .crcInit) rfl) ?_
  refine row_cases (fields_of_anyArg (j := .crcByte arg) rfl) ?_
  refine row_cases (fields_of_zeroArg (j := .crcFinish) rfl) ?_
  refine row_cases (fields_of_zeroArg (j := .crcBuf) rfl) ?_
  refine row_cases (fields_of_zeroArg (j := .sendHead) rfl) ?_
  refine row_cases (fields_of_anyArg (j := .sendData arg) rfl) ?_
  refine row_cases (fields_of_anyArg (j := .sendTail arg) rfl) ?_
  refine row_cases fields_of_classArg ?_
  refine row_cases (fields_of_zeroArg (j := .xferStart) rfl) ?_
  refine row_cases (fields_of_zeroArg (j := .xferNext) rfl) ?_
  refine row_cases (fields_of_zeroArg (j := .decode) rfl) ?_
  refine row_cases (fields_of_zeroArg (j := .clear) rfl) ?_
  refine row_cases (fields_of_zeroArg (j := .sreset) rfl) ?_
  exact fun h => nomatch h

/-- The decoder is the inverse of the encoder. -/
theorem decode_eq_some_iff (w : Word) (i : Instr) : decode w = some i ↔ encode i = w := by
  rw [encode_eq_iff, decode]
  by_cases hrsv : wordRsv w = 0
  · rw [if_pos hrsv]
    refine ⟨fun h => ⟨hrsv, fields_of_decodeFields h⟩, ?_⟩
    rintro ⟨-, hop, harg⟩
    rw [← hop, ← harg, decodeFields_opcode_operand]
  · simp only [hrsv, if_false, false_and, reduceCtorEq]

theorem decode_encode (i : Instr) : decode (encode i) = some i :=
  (decode_eq_some_iff _ i).2 rfl

/-- Settles O1: the decoder is the inverse of the encoder. -/
theorem decodeReadsBackEveryEncoding : Obligations.DecodeReadsBackEveryEncoding :=
  decode_encode

/-- Settles O2: the decoder is the inverse of the encoder. -/
theorem encodingIsTheOnlyWordOfItsCommand : Obligations.EncodingIsTheOnlyWordOfItsCommand :=
  fun w i => (decode_eq_some_iff w i).1

/-- Settles O4: each legal word is the word of its command, and the other three break a condition of R61. -/
theorem sampleWordsDecode : Obligations.SampleWordsDecode :=
  ⟨decode_encode (.crcByte 0x33), decode_encode .sendHead, decode_encode (.sendData 0x01),
    decode_encode (.sendFrame .raw), decode_encode .xferNext, decode_encode .decode, decode_encode .sreset,
    by decide, by decide, by decide⟩

/-! ### Legality (R61) -/

/-- Each opcode that takes no operand is the opcode of a command. -/
theorem exists_of_zeroArgOps : ∀ op ∈ zeroArgOps, ∃ i, opcode i = op ∧ operand i = 0 := by
  simp only [zeroArgOps, List.forall_mem_cons, List.not_mem_nil, false_imp_iff, implies_true, and_true]
  exact ⟨⟨.nop, rfl, rfl⟩, ⟨.crcInit, rfl, rfl⟩, ⟨.crcFinish, rfl, rfl⟩, ⟨.crcBuf, rfl, rfl⟩, ⟨.sendHead, rfl, rfl⟩,
    ⟨.xferStart, rfl, rfl⟩, ⟨.xferNext, rfl, rfl⟩, ⟨.decode, rfl, rfl⟩, ⟨.clear, rfl, rfl⟩, ⟨.sreset, rfl, rfl⟩⟩

/-- Each opcode that takes any byte is, with that byte, the opcode of a command. -/
theorem exists_of_anyArgOps (arg : Byte) : ∀ op ∈ anyArgOps, ∃ i, opcode i = op ∧ operand i = arg := by
  simp only [anyArgOps, List.forall_mem_cons, List.not_mem_nil, false_imp_iff, implies_true, and_true]
  exact ⟨⟨.crcByte arg, rfl, rfl⟩, ⟨.sendData arg, rfl, rfl⟩, ⟨.sendTail arg, rfl, rfl⟩⟩

theorem legal_iff (w : Word) : legal w = true ↔ wordRsv w = 0 ∧
    (wordOp w ∈ anyArgOps ∨ (wordOp w = 0x13 ∧ (wordArg w).extractLsb' 2 6 = 0) ∨
      (wordOp w ∈ zeroArgOps ∧ wordArg w = 0)) := by
  simp only [legal, Bool.and_eq_true, Bool.or_eq_true, beq_iff_eq, List.contains_iff_mem, or_assoc]

/-- The fields of every command meet the condition of R61. -/
theorem legal_encode (i : Instr) : legal (encode i) = true := by
  obtain ⟨hop, harg, hrsv⟩ := encode_fields i
  rw [legal_iff, hop, harg]
  refine ⟨hrsv, ?_⟩
  cases i with
  | crcByte | sendData | sendTail => exact .inl (by simp [opcode, anyArgOps])
  | sendFrame c => exact .inr (.inl ⟨rfl, by cases c <;> rfl⟩)
  | _ => exact .inr (.inr ⟨by decide, rfl⟩)

/-- The legal words are the words of the commands. -/
theorem legal_iff_exists_encode (w : Word) : legal w = true ↔ ∃ i, encode i = w := by
  refine ⟨fun h => ?_, fun ⟨i, hi⟩ => hi ▸ legal_encode i⟩
  obtain ⟨hrsv, hops⟩ := (legal_iff w).1 h
  suffices ∃ i, opcode i = wordOp w ∧ operand i = wordArg w by
    obtain ⟨i, hop, harg⟩ := this
    exact ⟨i, (encode_eq_iff i w).2 ⟨hrsv, hop, harg⟩⟩
  rcases hops with hany | ⟨hop, hhigh⟩ | ⟨hzero, harg⟩
  · exact exists_of_anyArgOps _ _ hany
  · refine ⟨.sendFrame (.ofCode ((wordArg w).extractLsb' 0 2)), hop.symm, ?_⟩
    rw [operand, code_ofCode, setWidth_low_bits hhigh]
  · rw [harg]
    exact exists_of_zeroArgOps _ hzero

theorem isSome_decode (w : Word) : (decode w).isSome = legal w := by
  rw [Bool.eq_iff_iff, Option.isSome_iff_exists, legal_iff_exists_encode]
  simp only [decode_eq_some_iff]

theorem decode_of_not_legal {w : Word} (h : legal w = false) : decode w = none := by
  rw [← Option.isNone_iff_eq_none, ← Option.not_isSome, isSome_decode, h, Bool.not_false]

/-- Bits 7:2 of `ARG` are bits 15:10 of the word (R58). -/
theorem extractLsb'_wordArg (w : Word) : (wordArg w).extractLsb' 2 6 = w.extractLsb' 10 6 := by
  refine BitVec.eq_of_getLsbD_eq fun i hi => ?_
  have hbyte : 2 + i < 8 := by omega
  simp only [wordArg, BitVec.getLsbD_extractLsb', hi, hbyte, decide_true, Bool.true_and, ← Nat.add_assoc]

/-- Settles O3: the model's predicate is R61 on the fields, and the words that decode are those of the commands. -/
theorem decodeAnswersExactlyOnLegalWords : Obligations.DecodeAnswersExactlyOnLegalWords := by
  refine fun w => ⟨?_, isSome_decode w⟩
  rw [legal_iff, extractLsb'_wordArg]
  rfl

/-! ### What a word that is not legal does (R69) -/

theorem illegalCommand_eq (op : Byte) (s : State) : illegalCommand op s =
    if s.state = .idle ∨ s.state = .waitChunk then errorEntered s .illegalCmd 0 0 0 op else setOvr s := by
  unfold illegalCommand acceptanceError
  cases s.state <;> rfl

theorem onCmdWrite_illegal {w : Word} (h : legal w = false) (s : State) :
    onCmdWrite w s = .next (illegalCommand (wordOp w) s) := by
  simp only [onCmdWrite, decode_of_not_legal h]

theorem eq_sreset_of_opcode {i : Instr} (h : opcode i = 0x3F) : i = .sreset := by
  cases i with
  | sreset => rfl
  | _ => exact absurd h (by simp [opcode])

/-- Settles O6: no command is read from the word, and the word of `SRESET` is the only legal one with its opcode. -/
theorem illegalWordRaisesOrOverruns : Obligations.IllegalWordRaisesOrOverruns := by
  refine ⟨fun s off w rest hinputs hoff hillegal => ?_, fun w => ⟨?_, fun hop hne => ?_⟩⟩
  · calc step s = onHostWrite off w (s.withInputs rest) := step_of_hostWrite hinputs
      _ = onCmdWrite w (s.withInputs rest) := onHostWrite_cmd hoff w _
      _ = .next (illegalCommand (wordOp w) (s.withInputs rest)) := onCmdWrite_illegal hillegal _
      _ = _ := congrArg _ (illegalCommand_eq _ _)
  · rw [decode_eq_some_iff, eq_comm]
    rfl
  · rw [← Bool.not_eq_true, legal_iff_exists_encode]
    rintro ⟨i, rfl⟩
    obtain rfl := eq_sreset_of_opcode ((encode_fields i).1.symm.trans hop)
    exact hne rfl

end Sys2Proof.EncodingProofs
end

section
/-! PROOFS. The commands as acceptance runs them (30_encoding.md R68, 45_control.md R127), and the frames that the send
commands and `XFER.NEXT` build (30_encoding.md R62 to R64, 41_frame_encoder.md R84 to R87, 43_transfer_sequencer.md
R105). -/

namespace Sys2Proof.BuildProofs

open Sys2Proof Sys2Proof.Machine Sys2Proof.Safety

/-! ### Acceptance (R68) -/

/-- Every command but `SRESET` is an acceptance (R127) in a group whose row of the table of R68 lists its accepting
states. -/
theorem exec_eq_accept {i : Instr} (hi : i ≠ .sreset) (s : State) : ∃ g op fault executed,
    exec i s = .next (accept g op fault executed s) ∧
      ∀ st, accepts g st = decide (st ∈ acceptingStates i) := by
  cases i with
  | sreset => exact absurd rfl hi
  | _ => exact ⟨_, _, _, _, rfl, fun st => by cases st <;> rfl⟩

theorem mem_acceptingStates_sreset (st : EngineState) : st ∈ acceptingStates .sreset := by
  cases st <;> decide

/-- Settles O8: the group of the command does not accept the state, so acceptance sets `OVR` alone. -/
theorem refusedCommandOnlySetsOverrun : Obligations.RefusedCommandOnlySetsOverrun := by
  intro i s hs
  have hi : i ≠ .sreset := by
    rintro rfl
    exact hs (mem_acceptingStates_sreset _)
  obtain ⟨g, op, fault, executed, hexec, haccepts⟩ := exec_eq_accept hi s
  have hrefused : accepts g s.state = false := (haccepts _).trans (decide_eq_false hs)
  rw [hexec, accept_refused hrefused]
  rfl

/-! ### Frames (R84) -/

/-- The build primitive builds its frame, for every payload that `TXF` holds. -/
theorem frameBuilt_build {p : List Byte} (hp : p.length ≤ 1027) (c : FrameClass) (op : Byte) (s : State) :
    FrameBuilt p c op s (build p c op s) :=
  ⟨build_txfLen_toNat p c op s hp, build_txFrame p c op s hp, build_read_outside p c op s, rfl⟩

/-- A command that is accepted without fault and builds a frame that `TXF` holds builds that frame. -/
theorem frameBuilt_of_accept {i : Instr} {g : CmdGroup} {code op : Byte} {fault : Bool} {p : List Byte}
    {c : FrameClass} {s : State} (hexec : exec i s = .next (accept g code fault (build p c op s) s))
    (haccepts : accepts g s.state = true) (hfault : fault = false) (hp : p.length ≤ 1027) :
    ∃ t, exec i s = .next t ∧ FrameBuilt p c op s t :=
  ⟨build p c op s, by rw [hexec, accept_executed haccepts hfault], frameBuilt_build hp c op s⟩

theorem accepts_link {s : State} (h : s.state = .idle) : accepts .link s.state = true := by
  rw [h]; rfl

theorem accepts_next {s : State} (h : s.state = .waitChunk) : accepts .next s.state = true := by
  rw [h]; rfl

theorem chunkTooLong_eq_false {s : State} (h : s.chunkLen.toNat ≤ 1024) : chunkTooLong s = false :=
  decide_eq_false (Nat.not_lt.2 h)

theorem chunkMismatch_eq_false {s : State} (h : s.chunkLen.toNat = chunkNeed s) : chunkMismatch s = false :=
  decide_eq_false (not_not_intro h)

/-- The payload of a data frame whose chunk is at most 1024 bytes long leaves room for the CRC trailer. -/
theorem length_dataPayload_le {s : State} (n : Byte) (h : s.chunkLen.toNat ≤ 1024) :
    (dataPayload n (s.chunkBytes s.chunkLen.toNat)).length ≤ 1027 := by
  rw [length_dataPayload, length_chunkBytes]
  omega

/-- Settles O18: `SEND.HEAD` is accepted in IDLE, and the head payload fits. -/
theorem sendHeadBuildsHeadFrame : Obligations.SendHeadBuildsHeadFrame :=
  fun s hs => frameBuilt_of_accept (p := headPayload s.len s.addr) rfl (accepts_link hs) rfl (by simp)

/-- Settles O19: `SEND.DATA` is accepted in IDLE, and a chunk of at most 1024 bytes is no fault and fits. -/
theorem sendDataBuildsDataFrame : Obligations.SendDataBuildsDataFrame :=
  fun s n hs hlen => frameBuilt_of_accept (p := dataPayload n (s.chunkBytes s.chunkLen.toNat)) rfl (accepts_link hs)
    (chunkTooLong_eq_false hlen) (length_dataPayload_le n hlen)

/-- Settles O20: `SEND.TAIL` is accepted in IDLE, and the tail payload fits. -/
theorem sendTailBuildsTailFrame : Obligations.SendTailBuildsTailFrame :=
  fun _ n hs => frameBuilt_of_accept (p := tailPayload n) rfl (accepts_link hs) rfl (by simp)

/-- Settles O23: `XFER.NEXT` is accepted in WAIT_CHUNK, and a chunk of the needed length is no fault and fits. -/
theorem xferNextBuildsDataFrame : Obligations.XferNextBuildsDataFrame :=
  fun s hs hlen => frameBuilt_of_accept (p := dataPayload s.seq (s.chunkBytes s.chunkLen.toNat)) rfl (accepts_next hs)
    (chunkMismatch_eq_false hlen) (length_dataPayload_le _ (hlen.trans_le (Nat.min_le_left _ _)))

end Sys2Proof.BuildProofs
end

section
/-! PROOFS. The CRC (40_crc.md R75 to R78): its direct form without flush steps, its residue, what it detects, and the
CRC commands (R79 to R82). -/

namespace Sys2Proof.CrcProofs

open Sys2Proof Sys2Proof.Machine Sys2Proof.Safety

/-! ### The generating turn and the table (R75) -/

/-- The turn shifts and adds the polynomial when bit 15 was set. -/
theorem crcShift_eq (r : Half) : crcShift r = r <<< 1 ^^^ if r.getLsbD 15 then Config.crcPoly else 0#16 := by
  unfold crcShift
  split
  · rfl
  · exact (BitVec.xor_zero).symm

/-- The polynomial has constant term 1, so the turn moves bit 15 into bit 0. -/
theorem getLsbD_crcShift_zero (r : Half) : (crcShift r).getLsbD 0 = r.getLsbD 15 := by
  rw [crcShift_eq, BitVec.getLsbD_xor, BitVec.getLsbD_shiftLeft]
  cases r.getLsbD 15 <;> rfl

theorem eq_of_shiftLeft_one_eq {a b : Half} (hlow : a <<< 1 = b <<< 1) (htop : a.getLsbD 15 = b.getLsbD 15) :
    a = b := by
  refine BitVec.eq_of_getElem_eq fun i hi => ?_
  by_cases h15 : i = 15
  · subst h15
    exact htop
  · have hbit := congrArg (·.getLsbD (i + 1)) hlow
    have hlt : i + 1 < 16 := by omega
    simpa [hlt] using hbit

/-- A turn can be undone: bit 0 of its result tells whether the polynomial was added. -/
theorem crcShift_injective : Function.Injective crcShift := by
  intro a b h
  have htop : a.getLsbD 15 = b.getLsbD 15 := by rw [← getLsbD_crcShift_zero, ← getLsbD_crcShift_zero, h]
  refine eq_of_shiftLeft_one_eq ?_ htop
  rw [crcShift_eq, crcShift_eq, htop] at h
  exact (BitVec.xor_left_inj _).1 h

/-- A byte's bits reach bit 15 only after eight turns, so no turn before adds the polynomial. -/
theorem crcShift_iterate_setWidth (b : Byte) {k : Nat} (hk : k ≤ 8) :
    crcShift^[k] (b.setWidth 16) = b.setWidth 16 <<< k := by
  induction k with
  | zero => exact (BitVec.shiftLeft_zero _).symm
  | succ k ih =>
    have htop : (b.setWidth 16 <<< k).getLsbD 15 = false := by
      have hge : 8 ≤ 15 - k := by omega
      simp [BitVec.getLsbD_of_ge _ _ hge]
    rw [Function.iterate_succ_apply', ih (by omega), crcShift_eq, htop, BitVec.shiftLeft_add]
    exact BitVec.xor_zero

/-! ### The two bytes of the accumulator (R76) -/

theorem highByte_of_setWidth_shiftLeft (b : Byte) : (b.setWidth 16 <<< 8 : Half).extractLsb' 8 8 = b := by
  ext i hi
  have hlt : 8 + i < 16 := by omega
  simp [hlt, BitVec.getLsbD_eq_getElem hi]

theorem highByte_of_shiftLeft (c : Half) : (c <<< 8).extractLsb' 8 8 = c.extractLsb' 0 8 := by
  ext i hi
  have hlt : 8 + i < 16 := by omega
  have hlt' : i < 16 := by omega
  simp [hlt, BitVec.getLsbD_eq_getElem hlt']

theorem highByte_of_setWidth (b : Byte) : (b.setWidth 16 : Half).extractLsb' 8 8 = 0#8 := by
  ext i hi
  simp

theorem shiftLeft_eight_twice (c : Half) : c <<< 8 <<< 8 = 0#16 := by
  rw [← BitVec.shiftLeft_add]
  exact BitVec.shiftLeft_eq_zero (by decide)

/-- The accumulator is its high byte, shifted up, and its low byte. -/
theorem eq_highByte_xor_lowByte (c : Half) :
    c = (c.extractLsb' 8 8).setWidth 16 <<< 8 ^^^ (c.extractLsb' 0 8).setWidth 16 := by
  ext i hi
  by_cases h : i < 8
  · simp [h, BitVec.getLsbD_eq_getElem hi]
  · have hhigh : 8 + (i - 8) = i := by omega
    have hbyte : i - 8 < 8 := by omega
    simp [h, hhigh, hbyte, BitVec.getLsbD_eq_getElem hi]

theorem setWidth_lowByte_shiftLeft (c : Half) : ((c.extractLsb' 0 8).setWidth 16 : Half) <<< 8 = c <<< 8 := by
  conv_rhs => rw [eq_highByte_xor_lowByte c, BitVec.shiftLeft_xor_distrib, shiftLeft_eight_twice, BitVec.zero_xor]

/-- A step with no byte: a shift and a lookup. -/
theorem crcStep_zero (a : Half) : crcStep a 0x00 = (a <<< 8) ^^^ crcTable (a.extractLsb' 8 8) := by
  rw [crcStep_eq, BitVec.ofNat_eq_ofNat, BitVec.setWidth_zero, BitVec.xor_zero]

/-- A byte enters the low end of the accumulator by exclusive or. -/
theorem crcStep_eq_xor_setWidth (a : Half) (b : Byte) : crcStep a b = crcStep a 0x00 ^^^ b.setWidth 16 := by
  rw [crcStep_eq, crcStep_zero]
  ac_rfl

/-- The flush takes a byte through the register to its table entry (R77). -/
theorem crcFlush_setWidth (b : Byte) : crcFlush (b.setWidth 16) = crcTable b := by
  have hfirst : crcStep (b.setWidth 16) 0x00 = b.setWidth 16 <<< 8 := by
    rw [crcStep_zero, highByte_of_setWidth, crcTable_zero, BitVec.xor_zero]
  rw [crcFlush, hfirst, crcStep_zero, highByte_of_setWidth_shiftLeft, shiftLeft_eight_twice, BitVec.zero_xor]

/-! ### The direct table algorithm (R78, property (b)) -/

/-- One step of the direct table algorithm, which needs no flush. -/
def directStep (c : Half) (b : Byte) : Half := (c <<< 8) ^^^ crcTable (c.extractLsb' 8 8 ^^^ b)

/-- Flushing after a step is a direct step after flushing. -/
theorem directStep_crcFlush (a : Half) (b : Byte) : directStep (crcFlush a) b = crcFlush (crcStep a b) := by
  calc directStep (crcFlush a) b
      = crcStep (crcFlush a) 0x00 ^^^ crcTable b := by
        rw [directStep, crcTable_xor, crcStep_zero, BitVec.xor_assoc]
    _ = crcFlush (crcStep a 0x00) ^^^ crcFlush (b.setWidth 16) := by rw [crcFlush_setWidth]; rfl
    _ = crcFlush (crcStep a b) := by rw [← crcFlush_xor, ← crcStep_eq_xor_setWidth]

theorem crc16_eq_foldl_directStep (bs : List Byte) : crc16 bs = bs.foldl directStep 0x0000 :=
  calc crc16 bs = bs.foldl directStep (crcFlush 0x0000) := (List.foldl_hom crcFlush directStep_crcFlush).symm
    _ = bs.foldl directStep 0x0000 := rfl

/-- The CRC of a sequence is carried on by the bytes that follow it. -/
theorem crc16_append (p q : List Byte) : crc16 (p ++ q) = q.foldl directStep (crc16 p) := by
  rw [crc16_eq_foldl_directStep, List.foldl_append, ← crc16_eq_foldl_directStep]

/-- Settles O12: the flush turns each step into a direct step. -/
theorem crcEqualsDirectTableAlgorithm : Obligations.CrcEqualsDirectTableAlgorithm :=
  crc16_eq_foldl_directStep

/-- Settles O11: the register starts and stays at zero, and one direct step from it looks up the byte. -/
theorem crcOfEmptyAndSingleByte : Obligations.CrcOfEmptyAndSingleByte := by
  refine ⟨crc16_eq_foldl_directStep [], fun b => ?_⟩
  rw [crc16_eq_foldl_directStep, List.foldl_cons, List.foldl_nil, directStep]
  simp

/-! ### The residue (R78, property (d)) -/

/-- The high byte of the register cancels the table lookup. -/
theorem directStep_highByte (c : Half) : directStep c (c.extractLsb' 8 8) = c <<< 8 := by
  simp [directStep]

/-- Settles O13: each trailer byte meets its equal at the top of the register, so both are shifted out. -/
theorem crcResidueIsZero : Obligations.CrcResidueIsZero := by
  intro p
  rw [crc16_append, List.foldl_cons, List.foldl_cons, List.foldl_nil, directStep_highByte, ← highByte_of_shiftLeft,
    directStep_highByte, shiftLeft_eight_twice]
  rfl

/-! ### One changed byte (44_frame_decoder.md section 4) -/

/-- A direct step is eight turns of the generating procedure on the register with the byte at its top. -/
theorem directStep_eq_iterate (c : Half) (b : Byte) :
    directStep c b = crcShift^[8] (c ^^^ b.setWidth 16 <<< 8) := by
  have hlow : crcShift^[8] ((c.extractLsb' 0 8).setWidth 16) = c <<< 8 := by
    rw [crcShift_iterate_setWidth _ le_rfl, setWidth_lowByte_shiftLeft]
  have htop : c ^^^ b.setWidth 16 <<< 8 =
      (c.extractLsb' 0 8).setWidth 16 ^^^ (c.extractLsb' 8 8 ^^^ b).setWidth 16 <<< 8 := by
    conv_lhs => rw [eq_highByte_xor_lowByte c]
    rw [BitVec.setWidth_xor, BitVec.shiftLeft_xor_distrib]
    ac_rfl
  rw [htop, crcShift_iterate_xor, hlow]
  rfl

theorem directStep_left_injective (b : Byte) : Function.Injective (directStep · b) := by
  intro c c' h
  simp only [directStep_eq_iterate] at h
  exact (BitVec.xor_left_inj _).1 (crcShift_injective.iterate 8 h)

theorem directStep_right_injective (c : Half) : Function.Injective (directStep c) := by
  intro b b' h
  simp only [directStep_eq_iterate] at h
  have hshift := (BitVec.xor_right_inj _).1 (crcShift_injective.iterate 8 h)
  rw [← highByte_of_setWidth_shiftLeft b, hshift, highByte_of_setWidth_shiftLeft]

theorem foldl_directStep_injective (q : List Byte) : Function.Injective (q.foldl directStep) := by
  induction q with
  | nil => exact Function.injective_id
  | cons b q ih => exact ih.comp (directStep_left_injective b)

/-- Settles O14: the changed byte changes the register, and no later byte can bring it back. -/
theorem crcDetectsOneByteChange : Obligations.CrcDetectsOneByteChange := by
  intro p q b b' hne h
  simp only [crc16_append, List.foldl_cons] at h
  exact hne (directStep_right_injective _ (foldl_directStep_injective q h))

/-! ### The CRC commands (R79 to R82) -/

/-- Group IMM is accepted in IDLE, WAIT_CHUNK and ERROR (R68). -/
theorem accepts_imm {st : EngineState} (h : st ∈ [EngineState.idle, .waitChunk, .error]) :
    accepts .imm st = true := by
  revert h
  cases st <;> decide

section
variable {s : State} (hs : s.state ∈ [EngineState.idle, .waitChunk, .error])
include hs

theorem exec_crcInit : exec .crcInit s = .next { s with acc := 0x0000 } :=
  congrArg _ (accept_executed (accepts_imm hs) rfl)

theorem exec_crcByte (b : Byte) : exec (.crcByte b) s = .next { s with acc := crcStep s.acc b } :=
  congrArg _ (accept_executed (accepts_imm hs) rfl)

theorem exec_crcFinish : exec .crcFinish s = .next { s with acc := crcFlush s.acc } :=
  congrArg _ (accept_executed (accepts_imm hs) rfl)

theorem exec_crcBuf (hlen : s.chunkLen.toNat ≤ 1024) :
    exec .crcBuf s = .next { s with acc := crc16 (s.chunkBytes s.chunkLen.toNat) } :=
  congrArg _ (accept_executed (accepts_imm hs) (BuildProofs.chunkTooLong_eq_false hlen))

end

/-- Settles O15: the state accepts each of the four commands, and a chunk of at most 1024 bytes is no operand fault. -/
theorem crcCommandsWriteOnlyAcc : Obligations.CrcCommandsWriteOnlyAcc :=
  fun _ b hs => ⟨exec_crcInit hs, exec_crcByte hs b, exec_crcFinish hs, exec_crcBuf hs⟩

/-! ### A sequence of commands -/

/-- A command that answers a next state is followed by the rest of the sequence from there. -/
theorem execAll_cons {i : Instr} {s t : State} (h : exec i s = .next t) (is : List Instr) :
    execAll (i :: is) s = execAll is t := by
  rw [execAll, h]

/-- From any accumulator, the bytes are stepped in and flushed (R80, R81). -/
theorem execAll_bytes_finish (bs : List Byte) {s : State} (hs : s.state ∈ [EngineState.idle, .waitChunk, .error]) :
    execAll (bs.map .crcByte ++ [.crcFinish]) s = .next { s with acc := crcFlush (bs.foldl crcStep s.acc) } := by
  induction bs generalizing s with
  | nil => exact execAll_cons (exec_crcFinish hs) []
  | cons b bs ih => exact (execAll_cons (exec_crcByte hs b) _).trans (ih hs)

/-- Settles O16: after `CRC.INIT` the bytes are stepped into a zero accumulator, which is R77. -/
theorem crcByteSequenceComputesCrc : Obligations.CrcByteSequenceComputesCrc :=
  fun bs _ hs => (execAll_cons (exec_crcInit hs) _).trans (execAll_bytes_finish bs hs)

end Sys2Proof.CrcProofs
end

section
/-! PROOFS. The frames of `SEND.FRAME` and `XFER.START` (41_frame_encoder.md R84, R88, 43_transfer_sequencer.md
R103). -/

namespace Sys2Proof.FrameStartProofs

open Sys2Proof Sys2Proof.Machine Sys2Proof.Safety Sys2Proof.BuildProofs

/-- Settles O21: `SEND.FRAME` is accepted in IDLE, and a chunk of at most 1024 bytes is no fault and fits. -/
theorem sendFrameBuildsAnyPayload : Obligations.SendFrameBuildsAnyPayload := by
  intro s c hs hlen
  have hfits : (s.chunkBytes s.chunkLen.toNat).length ≤ 1027 := by
    rw [length_chunkBytes]
    omega
  exact frameBuilt_of_accept rfl (accepts_link hs) (chunkTooLong_eq_false hlen) hfits

/-- `XFER.START` in IDLE sets the counters of R103, then builds the head frame. -/
theorem exec_xferStart_of_idle {s : State} (hs : s.state = .idle) :
    exec .xferStart s = .next (build (headPayload s.len s.addr) .head 0x20 (startTransfer s)) :=
  congrArg Host.Outcome.next (accept_executed (accepts_link hs) rfl)

/-- Settles O22: the head payload fits `TXF`, so the build on the state with its counters set builds the head frame. -/
theorem xferStartBuildsHeadFrame : Obligations.XferStartBuildsHeadFrame := by
  intro s hs
  have hbuilt : FrameBuilt (headPayload s.len s.addr) .head 0x20 (startTransfer s)
      (build (headPayload s.len s.addr) .head 0x20 (startTransfer s)) :=
    frameBuilt_build (by simp) .head 0x20 (startTransfer s)
  exact ⟨_, exec_xferStart_of_idle hs, hbuilt⟩

end Sys2Proof.FrameStartProofs
end

section
/-! PROOFS. The TX and WAIT_ACK steps (42_ack_handshake.md R92, R94 to R97), a whole handshake that an ACK byte ends, and
the data frame of one `XFER.NEXT` from WAIT_CHUNK to the next chunk or the tail (43_transfer_sequencer.md R102, R105,
R106). -/

namespace Sys2Proof.HandshakeProofs

open Sys2Proof Sys2Proof.Machine Sys2Proof.Safety Sys2Proof.StateProofs Sys2Proof.MemoryProofs Sys2Proof.BuildProofs

/-! ### The TX step (R92) -/

theorem engineStep_writeOk {s : State} (h : s.state = .tx) : engineStep .writeOk s = .next (txStep true s) := by
  simp only [engineStep, h]

theorem engineStep_writeErr {s : State} (h : s.state = .tx) : engineStep .writeErr s = .next (txStep false s) := by
  simp only [engineStep, h]

theorem step_writeOk {s : State} {rest : List Event} (hs : s.state = .tx)
    (h : s.env.inputs = .engineStep .writeOk :: rest) : step s = .next (txStep true (s.withInputs rest)) :=
  (step_of_scheduled h).trans (engineStep_writeOk (s := s.withInputs rest) hs)

/-- Settles O25: the scheduled draw picks the outcome of the TX step. -/
theorem txStepOutcomes : Obligations.TxStepOutcomes := by
  intro s rest hs
  exact ⟨step_writeOk hs, fun h => (step_of_scheduled h).trans (engineStep_writeErr (s := s.withInputs rest) hs)⟩

/-! ### The verdict of a WAIT_ACK step (R95, R96) -/

theorem step_of_readDraw {s : State} {r : ReadOutcome} {rest : List Event} (hs : s.state = .waitAck)
    (h : s.env.inputs = .engineStep (readDraw r) :: rest) : step s = .next (waitAckStep r (s.withInputs rest)) :=
  (step_of_scheduled h).trans (engineStep_readDraw (s := s.withInputs rest) hs r)

theorem byteVerdict_ack (s : State) :
    byteVerdict 0xAA s = success { s with rxv := true, lastRx := 0xAA, silentRun := 0 } :=
  ((byteVerdict_cases 0xAA s).resolve_right fun ⟨hne, _⟩ => hne rfl).2

theorem byteVerdict_other {b : Byte} (hb : b ≠ 0xAA) (s : State) : byteVerdict b s =
    errorEntered { s with rxv := true, lastRx := b } .protocolViolation 0xAA b s.cls.code s.curOp :=
  ((byteVerdict_cases b s).resolve_left fun ⟨hack, _⟩ => hb hack).2

theorem timeoutVerdict_accepted {s : State} (h : s.cls ≠ .data ∨ s.ctrl.sdOk = true) : timeoutVerdict s =
    success { s with
      rxv := false, lastRx := 0x00, silentRun := s.silentRun + 1, silentTotal := s.silentTotal + 1 } :=
  ((timeoutVerdict_cases s).resolve_right fun ⟨hdata, hoff, _⟩ => by simp [hdata, hoff] at h).2

theorem timeoutVerdict_refused {s : State} (hdata : s.cls = .data) (hoff : s.ctrl.sdOk = false) : timeoutVerdict s =
    errorEntered { s with rxv := false, lastRx := 0x00 } .ackTimeout 0xAA 0 1 s.curOp :=
  ((timeoutVerdict_cases s).resolve_left fun ⟨haccepted, _⟩ => by simp [hdata, hoff] at haccepted).2.2

/-- Settles O28: each failing read has its verdict. -/
theorem failedHandshakeRecordsItsError : Obligations.FailedHandshakeRecordsItsError := by
  intro s rest hs
  refine ⟨fun b hb h => ?byte, fun h => ?err, fun hdata hoff h => ?timeout⟩
  case byte =>
    rw [step_of_readDraw (r := .byte b) hs h]
    exact congrArg Host.Outcome.next (byteVerdict_other hb _)
  case err =>
    rw [step_of_readDraw (r := .err) hs h]
    rfl
  case timeout =>
    rw [step_of_readDraw (r := .timeout) hs h]
    exact congrArg Host.Outcome.next (timeoutVerdict_refused hdata hoff)

/-- A handshake that succeeds goes on by the transfer phase (R97). -/
theorem step_of_handshakeSucceeds {s u : State} {rest : List Event} (hs : s.state = .waitAck)
    (h : HandshakeSucceeds s rest u) : step s = .next (success u) := by
  rcases h with ⟨hinputs, rfl⟩ | ⟨hinputs, hpolicy, rfl⟩
  case inl =>
    rw [step_of_readDraw (r := .byte 0xAA) hs hinputs]
    exact congrArg Host.Outcome.next (byteVerdict_ack _)
  case inr =>
    rw [step_of_readDraw (r := .timeout) hs hinputs]
    exact congrArg Host.Outcome.next (timeoutVerdict_accepted hpolicy)

theorem handshakeSucceeds_xphase {s u : State} {rest : List Event} (h : HandshakeSucceeds s rest u) :
    u.xphase = s.xphase := by
  rcases h with ⟨_, rfl⟩ | ⟨_, _, rfl⟩ <;> rfl

/-- Settles O29: outside a transfer the continuation of R97 is IDLE with `DONE` set. -/
theorem singleFrameSucceeds : Obligations.SingleFrameSucceeds := by
  intro s u rest hs hphase h
  rw [step_of_handshakeSucceeds hs h, success_none ((handshakeSucceeds_xphase h).trans hphase)]

/-- No continuation of a successful handshake ends in ERROR (R97). -/
theorem success_state_ne_error (s : State) : (success s).state ≠ .error := by
  rcases success_cases s with ⟨_, h⟩ | ⟨_, _, h⟩ | ⟨_, _, h⟩ | ⟨_, _, h⟩ | ⟨_, _, h⟩ | ⟨_, h⟩ <;>
    simp [h, buildTail_eq]

/-- Settles O27: an ACK byte ends the handshake in success, any other byte has its error recorded. -/
theorem ackByteNeverErrsAndOtherBytesAlwaysDo : Obligations.AckByteNeverErrsAndOtherBytesAlwaysDo := by
  intro s rest b hs h
  by_cases hb : b = 0xAA
  · subst hb
    exact ⟨_, step_of_handshakeSucceeds hs (.inl ⟨h, rfl⟩), fun _ => success_state_ne_error _,
      fun hne => absurd rfl hne⟩
  · obtain ⟨hother, _, _⟩ := failedHandshakeRecordsItsError s rest hs
    exact ⟨_, hother b hb h, fun hack => absurd hack hb, fun _ => ⟨rfl, rfl⟩⟩

/-! ### A handshake that the link answers with an ACK byte (R91, R92, R95) -/

theorem step_flushOk {s : State} {rest : List Event} (hs : s.state = .flush)
    (h : s.env.inputs = .engineStep .flushOk :: rest) : step s = .next (flushStep true (s.withInputs rest)) :=
  (step_of_scheduled h).trans (engineStep_flushOk (s := s.withInputs rest) hs)

theorem run_of_step {s t : State} (h : step s = .next t) (k : Nat) :
    Sys2Proof.core.run (k + 1) s = Sys2Proof.core.run k t := by
  have hcore : Sys2Proof.core.step s = .next t := h
  simp only [Host.Core.run, hcore]

/-- `s`, in FLUSH, when the three link requests of its handshake were answered with ok, ok and an ACK byte. -/
def acknowledged (s : State) (rest : List Event) : State :=
  { s with
    state := .waitAck
    startTimeout := classTimeout s
    rxv := true
    lastRx := 0xAA
    silentRun := 0
    env := { s.env with
      inputs := rest
      link := s.env.link ++ [.flush true] ++ [.write s.txFrame true] ++ [.read (classTimeout s) (.byte 0xAA)] } }

/-- Three steps take a frame from FLUSH to the continuation of R97. No event falls between the FLUSH step and the read,
so R29 and R93 give one timeout. -/
theorem run_acknowledged {s : State} {rest : List Event} (hs : s.state = .flush)
    (h : s.env.inputs = .engineStep .flushOk :: .engineStep .writeOk :: .engineStep (.readByte 0xAA) :: rest) :
    Sys2Proof.core.run 3 s = .next (success (acknowledged s rest)) := by
  refine (run_of_step (step_flushOk hs h) 2).trans ((run_of_step (step_writeOk rfl rfl) 1).trans
    (run_of_step (step_of_handshakeSucceeds rfl (.inl ⟨rfl, ?_⟩)) 0))
  rw [ackTimeout_eq_of_unchanged rfl]
  rfl

/-! ### One data frame of a transfer (R102, R105, R106) -/

/-- `XFER.NEXT` in WAIT_CHUNK with a chunk of the needed length builds the data frame (R105). -/
theorem exec_xferNext_of_waitChunk {s : State} (hs : s.state = .waitChunk) (hlen : s.chunkLen.toNat = chunkNeed s) :
    exec .xferNext s = .next (build (dataPayload s.seq (s.chunkBytes s.chunkLen.toNat)) .data 0x21 s) :=
  congrArg Host.Outcome.next (accept_executed (accepts_next hs) (chunkMismatch_eq_false hlen))

/-- `s`, in WAIT_CHUNK, when its next data frame was built, sent and acknowledged, and is not counted yet. -/
def chunkAcknowledged (s : State) (rest : List Event) : State :=
  acknowledged (build (dataPayload s.seq (s.chunkBytes s.chunkLen.toNat)) .data 0x21 s) rest

/-- The command and the three answers of the link take four steps to the continuation of R97 (R105). -/
theorem run_chunkAcknowledged {s : State} {rest : List Event} (hs : s.state = .waitChunk)
    (hlen : s.chunkLen.toNat = chunkNeed s)
    (h : s.env.inputs = .hostWrite 0x004 0x00000021 :: .engineStep .flushOk :: .engineStep .writeOk ::
      .engineStep (.readByte 0xAA) :: rest) :
    Sys2Proof.core.run 4 s = .next (success (chunkAcknowledged s rest)) := by
  have hbuild := (stepRunsTheDecodedCommand s _ _ _ .xferNext h rfl rfl).trans
    (exec_xferNext_of_waitChunk (s := s.withInputs _) hs hlen)
  exact (run_of_step hbuild 3).trans (run_acknowledged rfl rfl)

/-- The link requests of a data frame (R92, R102), for a chunk that `TXF` holds. -/
theorem chunkAcknowledged_link {s : State} (hlen : s.chunkLen.toNat ≤ 1024) (rest : List Event) :
    (chunkAcknowledged s rest).env.link = s.env.link ++ [.flush true,
      .write (frameOf (dataPayload s.seq (s.chunkBytes s.chunkLen.toNat))) true,
      .read s.timeouts.data (.byte 0xAA)] := by
  simp only [chunkAcknowledged, acknowledged, build_txFrame _ _ _ _ (length_dataPayload_le s.seq hlen),
    List.append_assoc]
  rfl

/-- The frame in flight carries the whole chunk (R30, R106). -/
theorem chunkInFlight_chunkAcknowledged {s : State} (hlen : s.chunkLen.toNat ≤ 1024) (rest : List Event) :
    (chunkInFlight (chunkAcknowledged s rest)).toNat = s.chunkLen.toNat := by
  have htxf : (chunkAcknowledged s rest).txfLen.toNat = s.chunkLen.toNat + 5 := by
    refine (build_txfLen_toNat _ .data 0x21 s (length_dataPayload_le s.seq hlen)).trans ?_
    rw [length_dataPayload, length_chunkBytes]
  unfold chunkInFlight
  bv_omega

/-- Success of a data frame advances the counters and asks nothing of the link; then the block waits for the next chunk,
or has built the tail when no byte is left (R106, R107). -/
theorem success_data_counts {s : State} (h : s.xphase = .data) : (success s).env = s.env ∧
    (success s).nsent = s.nsent + 1 ∧ (success s).seq = s.seq + 1 ∧ (success s).progSent = s.nsent + 1 ∧
    (success s).remain = s.remain - chunkInFlight s ∧
    ((success s).remain ≠ 0 → (success s).state = .waitChunk ∧ (success s).xphase = .data) ∧
    ((success s).remain = 0 → (success s).state = .flush ∧ (success s).xphase = .tail ∧ (success s).cls = .tail) := by
  by_cases hnone : s.remain - chunkInFlight s = 0
  · have htail : success s = buildTail (emitProgress (countDataFrame s)) := (success_data h).trans (if_pos hnone)
    simp [htail, buildTail_eq, hnone]
  · have hwait : success s = { emitProgress (countDataFrame s) with state := .waitChunk } :=
      (success_data h).trans (if_neg hnone)
    simpa [hwait, h] using hnone

/-- Settles O34: `XFER.NEXT` builds the data frame, an acknowledged handshake sends it, and the continuation of phase
DATA counts it. -/
theorem dataFrameRoundSendsOneChunk : Obligations.DataFrameRoundSendsOneChunk := by
  intro s rest hs hphase hlen _ h
  have hfits : s.chunkLen.toNat ≤ 1024 := hlen.trans_le (Nat.min_le_left _ _)
  have hle : s.chunkLen.toNat ≤ s.remain.toNat := hlen.trans_le (Nat.min_le_right _ _)
  have hinFlight := chunkInFlight_chunkAcknowledged hfits rest
  obtain ⟨henv, hnsent, hseq, hprogSent, hremain, hmore, hlast⟩ :=
    success_data_counts (s := chunkAcknowledged s rest) hphase
  have hlink := (congrArg Env.link henv).trans (chunkAcknowledged_link hfits rest)
  have hcounted : (success (chunkAcknowledged s rest)).remain.toNat = s.remain.toNat - s.chunkLen.toNat := by
    rw [hremain, ← hinFlight]
    exact BitVec.toNat_sub_of_le (BitVec.le_def.2 (hinFlight.trans_le hle))
  exact ⟨_, _, rfl, run_chunkAcknowledged hs hlen h, hlink, hnsent, hseq, hprogSent, hcounted, hmore, hlast⟩

end Sys2Proof.HandshakeProofs
end

section
/-! PROOFS. The transfer sequencer (43_transfer_sequencer.md R103 to R110): what the success of each frame of a transfer
does, the SETTLE step, and the counter laws that every step of a transfer keeps. -/

namespace Sys2Proof.SequencerProofs

open Sys2Proof Sys2Proof.Machine Sys2Proof.Safety Sys2Proof.StateProofs Sys2Proof.LinkProofs Sys2Proof.BuildProofs
  Sys2Proof.FrameStartProofs Sys2Proof.HandshakeProofs

/-! ### The counter laws and what leaves them alone (10_state.md R40) -/

/-- The transfer phase and the counters that the laws speak of. -/
def transferCounters (s : State) : XferPhase × Byte × Word × Word × Word × Word :=
  (s.xphase, s.seq, s.nsent, s.remain, s.progSent, s.progTotal)

theorem transferCounters_eq_iff {s t : State} : transferCounters t = transferCounters s ↔
    t.xphase = s.xphase ∧ t.seq = s.seq ∧ t.nsent = s.nsent ∧ t.remain = s.remain ∧ t.progSent = s.progSent ∧
      t.progTotal = s.progTotal := by
  simp [transferCounters]

/-- `TXF` holds a data frame of the length and the seq that the counters give (R105). -/
def NextDataFrameInTxf (s : State) : Prop :=
  s.txfLen.toNat = 5 + min 1024 s.remain.toNat ∧ s.mem.read (txfRegion.base + 1) = s.seq

/-- The laws look only at the counters and, while a data frame is in flight, at `TXF`. -/
theorem transferLaw_of_sameCounters {size : Nat} {s t : State} (hs : TransferLaw size s)
    (hsame : transferCounters t = transferCounters s)
    (hframe : t.xphase = .data → inHandshake t = true → NextDataFrameInTxf t) : TransferLaw size t := by
  obtain ⟨hphase, hseq, hnsent, hremain, hprogSent, hprogTotal⟩ := transferCounters_eq_iff.1 hsame
  refine ⟨?_, ?_, ?_, hframe, ?_⟩ <;> rw [hphase]
  · rw [hseq, hnsent, hremain, hprogSent, hprogTotal]
    exact hs.counters
  · rw [hnsent]
    exact hs.headFirst
  · rw [hremain]
    exact hs.dataLeft
  · rw [hseq, hnsent, hremain, hprogSent, hprogTotal]
    exact hs.tailCounts

/-- Where no frame is in flight the laws look at the counters alone. -/
theorem transferLaw_of_notInHandshake {size : Nat} {s t : State} (hs : TransferLaw size s)
    (hsame : transferCounters t = transferCounters s) (hstate : inHandshake t = false) : TransferLaw size t :=
  transferLaw_of_sameCounters hs hsame fun _ hin => by simp [hstate] at hin

/-- Outside a transfer the laws say nothing. -/
theorem transferLaw_of_noTransfer {size : Nat} {t : State} (h : t.xphase = .none) : TransferLaw size t where
  counters := by simp [h]
  headFirst := by simp [h]
  dataLeft := by simp [h]
  inFlight := by simp [h]
  tailCounts := by simp [h]

/-! ### Commands and host stores (R55, R103, R105) -/

/-- Settles O37: the counters of R103 obey the laws, and the build leaves them alone. -/
theorem xferStartEstablishesTheTransferLaw : Obligations.XferStartEstablishesTheTransferLaw := by
  intro s t hidle h
  rw [exec_xferStart_of_idle hidle] at h
  cases h
  refine ⟨⟨fun _ => ⟨rfl, rfl, rfl, ?total⟩, fun _ => rfl, (nomatch ·), (nomatch ·), (nomatch ·)⟩, rfl⟩
  have hlen : s.len.toNat < 2 ^ 32 := s.len.isLt
  simp only [build_progTotal, startTransfer_progTotal, BitVec.toNat_ofNat, frameCount, Config.maxChunk]
  omega

/-- The data frame that `XFER.NEXT` builds is the one the counters give (R63, R105). -/
theorem nextDataFrameInTxf_build {s : State} (hlen : s.chunkLen.toNat = chunkNeed s) :
    NextDataFrameInTxf (build (dataPayload s.seq (s.chunkBytes s.chunkLen.toNat)) .data 0x21 s) := by
  have hfits : s.chunkLen.toNat ≤ 1024 := hlen.trans_le (chunkNeed_le s)
  constructor
  · rw [build_txfLen_toNat _ _ _ _ (length_dataPayload_le s.seq hfits), length_dataPayload, length_chunkBytes, hlen,
      chunkNeed, build_remain, Config.maxChunk]
    omega
  · exact build_read_inside _ .data 0x21 s 1 (by simp)

/-- A host store changes no counter and no byte of `TXF` (R55). -/
theorem transferLaw_hostStore {size : Nat} {s : State} (hs : TransferLaw size s) (off : Offset) (v : Word) :
    TransferLaw size (hostStore off v s) := by
  obtain ⟨c, d, o, l, a, k, t, r, m, h, hm⟩ := hostStore_frame off v s
  rw [h]
  refine transferLaw_of_sameCounters hs rfl fun hphase hin => ?_
  obtain ⟨hlen, hseq⟩ := hs.inFlight hphase hin
  have hread : m.read (txfRegion.base + 1) = s.mem.read (txfRegion.base + 1) := by
    rcases hm with rfl | ⟨base, bs, rfl, hbuffer⟩
    · rfl
    · refine read_write_outside _ _ _ _ (.inr ?_)
      simp only [txfRegion]
      omega
  exact ⟨hlen, hread.trans hseq⟩

/-! ### The tail frame (R107) -/

/-- The count of the tail frame as R107 states it. -/
theorem tailCount_eq (s : State) : tailCount s = s.nsent.setWidth 8 + (if s.ctrl.tailOff then 1 else 0) := by
  unfold tailCount
  cases s.ctrl.tailOff <;> rfl

/-- `BuildTail()` builds the tail frame, in phase TAIL and with `CUR_OP` kept. -/
theorem frameBuilt_buildTail (s : State) :
    FrameBuilt (tailPayload (tailCount s)) .tail s.curOp { s with xphase := .tail } (buildTail s) :=
  frameBuilt_build (by simp) .tail s.curOp { s with xphase := .tail }

/-- The tail comes when every data frame of the image has been sent. -/
theorem transferLaw_buildTail {size : Nat} {s : State} (hremain : s.remain = 0)
    (hcount : s.nsent.toNat = (size + 1023) / 1024) (hseq : s.seq = s.nsent.setWidth 8 + 1)
    (hprogSent : s.progSent = s.nsent) (hprogTotal : s.progTotal.toNat = (size + 1023) / 1024) :
    TransferLaw size (buildTail s) where
  counters := by simp [buildTail_eq]
  headFirst := by simp [buildTail_eq]
  dataLeft := by simp [buildTail_eq]
  inFlight := by simp [buildTail_eq]
  tailCounts _ := ⟨hremain, hcount, hseq, hprogSent, BitVec.eq_of_toNat_eq (hprogTotal.trans hcount.symm)⟩

/-! ### Success of the head frame (R104) -/

/-- A handshake that succeeds changes the flags and counters of R95 and the agents around the block. -/
theorem handshakeSucceeds_frame {s u : State} {rest : List Event} (h : HandshakeSucceeds s rest u) : ∃ v l n m e,
    u = { s with rxv := v, lastRx := l, silentRun := n, silentTotal := m, env := e } := by
  rcases h with ⟨_, rfl⟩ | ⟨_, _, rfl⟩
  · exact ⟨true, 0xAA, 0, s.silentTotal, _, rfl⟩
  · exact ⟨false, 0x00, s.silentRun + 1, s.silentTotal + 1, _, rfl⟩

theorem headDone_of_bytesLeft {s : State} (h : s.remain ≠ 0) :
    headDone s = { s with xphase := .data, state := .waitChunk } := if_neg h

theorem headDone_of_empty {s : State} (h : s.remain = 0) : headDone s = buildTail s := if_pos h

/-- Settles O30: the continuation of phase HEAD, by whether bytes remain. -/
theorem headSuccessContinuesTheTransfer : Obligations.HeadSuccessContinuesTheTransfer := by
  intro s u rest hs hphase h
  have hstep := step_of_handshakeSucceeds hs h
  rw [success_head ((handshakeSucceeds_xphase h).trans hphase)] at hstep
  obtain ⟨v, l, n, m, e, rfl⟩ := handshakeSucceeds_frame h
  exact ⟨fun hmore => hstep.trans (congrArg Host.Outcome.next (headDone_of_bytesLeft hmore)),
    fun hnone => ⟨_, _, tailCount_eq _, hstep.trans (congrArg Host.Outcome.next (headDone_of_empty hnone)),
      frameBuilt_buildTail _⟩⟩

/-- After the head frame no data frame has been sent: bytes remain, or the image is empty. -/
theorem transferLaw_success_head {size : Nat} {s : State} (hs : TransferLaw size s) (hphase : s.xphase = .head) :
    TransferLaw size (success s) := by
  obtain ⟨hseq, hsize, hprogSent, hprogTotal⟩ := hs.counters (.inl hphase)
  have hnsent : s.nsent.toNat = 0 := by rw [hs.headFirst hphase]; rfl
  rw [success_head hphase]
  by_cases hnone : s.remain = 0
  · have hsize0 : size = 0 := by rw [← hsize, hnone, hnsent]; rfl
    rw [headDone_of_empty hnone]
    exact transferLaw_buildTail hnone (by omega) hseq hprogSent hprogTotal
  · rw [headDone_of_bytesLeft hnone]
    have hleft : s.remain.toNat ≠ 0 := fun h0 => hnone (BitVec.eq_of_toNat_eq h0)
    exact ⟨fun _ => ⟨hseq, hsize, hprogSent, hprogTotal⟩, (nomatch ·), fun _ => Nat.pos_of_ne_zero hleft,
      fun _ => (nomatch ·), (nomatch ·)⟩

/-! ### Success of a data frame (R106) -/

theorem nextChunk_of_bytesLeft {s : State} (h : s.remain ≠ 0) : nextChunk s = { s with state := .waitChunk } :=
  if_neg h

theorem nextChunk_of_empty {s : State} (h : s.remain = 0) : nextChunk s = buildTail s := if_pos h

/-- Settles O31: the continuation of phase DATA counts the frame and emits the event, then goes on by whether bytes
remain. -/
theorem dataSuccessCountsAndContinues : Obligations.DataSuccessCountsAndContinues := by
  intro s u v rest hs hphase h hv
  have hstep := step_of_handshakeSucceeds hs h
  rw [success_data ((handshakeSucceeds_xphase h).trans hphase), dataDone] at hstep
  have hcounted : v = emitProgress (countDataFrame u) ∧ u.ctrl = s.ctrl ∧ u.curOp = s.curOp := by
    obtain ⟨_, _, _, _, _, rfl⟩ := handshakeSucceeds_frame h
    exact ⟨hv, rfl, rfl⟩
  obtain ⟨rfl, hctrl, hcurOp⟩ := hcounted
  rw [← hctrl, ← hcurOp]
  exact ⟨fun hmore => hstep.trans (congrArg Host.Outcome.next (nextChunk_of_bytesLeft hmore)),
    fun hnone => ⟨_, _, tailCount_eq _, hstep.trans (congrArg Host.Outcome.next (nextChunk_of_empty hnone)),
      frameBuilt_buildTail _⟩⟩

/-- The bytes in flight are those the counters ask for, so the frame takes at most 1024 off `REMAIN` (R106). -/
theorem toNat_remain_sub_chunkInFlight {s : State} (h : NextDataFrameInTxf s) :
    (s.remain - chunkInFlight s).toNat = s.remain.toNat - 1024 := by
  obtain ⟨hlen, _⟩ := h
  unfold chunkInFlight
  bv_omega

/-- While bytes remain, `NSENT` is below the number of data frames of the image, so it does not wrap. -/
theorem toNat_nsent_succ {size : Nat} {s : State} (hs : TransferLaw size s) (hphase : s.xphase = .data) :
    (s.nsent + 1).toNat = s.nsent.toNat + 1 := by
  obtain ⟨_, hsize, _, hprogTotal⟩ := hs.counters (.inr hphase)
  have hleft := hs.dataLeft hphase
  have htotal : s.progTotal.toNat < 2 ^ 32 := s.progTotal.isLt
  have hfits : s.nsent.toNat + 1 < 2 ^ 32 := by omega
  exact BitVec.toNat_add_of_lt hfits

/-- After a data frame the laws hold for one more frame sent: full, if bytes remain, or the last one. -/
theorem transferLaw_success_data {size : Nat} {s : State} (hs : TransferLaw size s) (hphase : s.xphase = .data)
    (hin : inHandshake s = true) : TransferLaw size (success s) := by
  obtain ⟨hseq, hsize, _, hprogTotal⟩ := hs.counters (.inr hphase)
  have hleft := hs.dataLeft hphase
  have hremain := toNat_remain_sub_chunkInFlight (hs.inFlight hphase hin)
  have hnsent := toNat_nsent_succ hs hphase
  have hseq' : s.seq + 1 = (s.nsent + 1).setWidth 8 + 1 := by
    rw [hseq, BitVec.setWidth_add _ _ (by decide)]
    rfl
  rw [success_data hphase, dataDone]
  by_cases hnone : s.remain - chunkInFlight s = 0
  · have hlast : s.remain.toNat - 1024 = 0 := by rw [← hremain, hnone]; rfl
    rw [nextChunk_of_empty hnone]
    exact transferLaw_buildTail hnone (hnsent.trans (by omega)) hseq' rfl hprogTotal
  · have hmore : (s.remain - chunkInFlight s).toNat ≠ 0 := fun h0 => hnone (BitVec.eq_of_toNat_eq h0)
    have hsize' : (s.remain - chunkInFlight s).toNat + 1024 * (s.nsent + 1).toNat = size := by omega
    rw [nextChunk_of_bytesLeft hnone]
    exact ⟨fun _ => ⟨hseq', hsize', rfl, hprogTotal⟩, fun h => by simp [hphase] at h,
      fun _ => Nat.pos_of_ne_zero hmore, fun _ => (nomatch ·), fun h => by simp [hphase] at h⟩

/-! ### The end of a transfer (R108, R109) -/

/-- Settles O32: the continuation of phase TAIL. -/
theorem tailSuccessStartsTheSettleDelay : Obligations.TailSuccessStartsTheSettleDelay := by
  intro s u rest hs hphase h
  have hstep := step_of_handshakeSucceeds hs h
  obtain ⟨v, l, n, m, e, rfl⟩ := handshakeSucceeds_frame h
  exact hstep.trans (congrArg Host.Outcome.next (success_tail hphase))

theorem engineStep_noDraw {s : State} (h : s.state = .settle) : engineStep .noDraw s = .next (settleStep s) := by
  simp only [engineStep, h]

/-- Settles O33: the scheduled step of the engine in SETTLE is the end of the transfer. -/
theorem settleStepEndsTheTransfer : Obligations.SettleStepEndsTheTransfer := by
  intro s rest hs h
  exact (step_of_scheduled h).trans (engineStep_noDraw (s := s.withInputs rest) hs)

/-! ### Every step of a transfer (43_transfer_sequencer.md section 3) -/

/-- The continuation of a successful handshake keeps the laws in every phase (R97). -/
theorem transferLaw_success {size : Nat} {s : State} (hs : TransferLaw size s) (hin : inHandshake s = true) :
    TransferLaw size (success s) := by
  cases hphase : s.xphase with
  | none => exact transferLaw_of_noTransfer (by rw [success_none hphase]; exact hphase)
  | head => exact transferLaw_success_head hs hphase
  | data => exact transferLaw_success_data hs hphase hin
  | tail =>
    rw [success_tail hphase]
    exact transferLaw_of_notInHandshake hs rfl rfl

theorem transferLaw_waitAckStep {size : Nat} (r : ReadOutcome) {s : State} (hs : TransferLaw size s)
    (hstate : s.state = .waitAck) : TransferLaw size (waitAckStep r s) := by
  have hin : inHandshake s = true := by simp [inHandshake, hstate]
  rcases waitAckStep_cases r s with ⟨v, l, c, x, y, k, h, _⟩ | ⟨_, v, l, n, m, h⟩ <;> rw [h]
  · exact transferLaw_of_notInHandshake hs rfl rfl
  · exact transferLaw_success (transferLaw_of_sameCounters hs rfl hs.inFlight) hin

/-- Only the success of a frame changes a counter of a transfer in progress: the commands that start frames of their own
are accepted in IDLE alone, and a transfer in progress is never there. -/
theorem move_keeps_transferLaw {size : Nat} {s t : State} (h : Move s t) (hbusy : s.state ≠ .idle)
    (hs : TransferLaw size s) : TransferLaw size t := by
  cases h with
  | send _ _ _ hidle => exact absurd hidle hbusy
  | start hidle => exact absurd hidle hbusy
  | chunk _ hlen => exact transferLaw_of_sameCounters hs rfl fun _ _ => nextDataFrameInTxf_build hlen
  | store off v => exact transferLaw_hostStore hs off v
  | flush ok hstate | tx ok hstate =>
    have hin : inHandshake s = true := by simp [inHandshake, hstate]
    cases ok <;> exact transferLaw_of_sameCounters hs rfl fun hphase _ => hs.inFlight hphase hin
  | waitAck r hstate => exact transferLaw_waitAckStep r hs hstate
  | acceptError => exact transferLaw_of_notInHandshake hs rfl rfl
  | clear | reset | settle => exact transferLaw_of_noTransfer rfl
  | same | overrun | crc | decode | read => exact transferLaw_of_sameCounters hs rfl hs.inFlight

/-- Settles O36: by cases on the moves of the block. By the control invariant a block in a transfer is not in IDLE. -/
theorem stepKeepsTheTransferLaw : Obligations.StepKeepsTheTransferLaw := by
  intro size s t hinv hphase hs h
  have hbusy : s.state ≠ .idle := fun hidle => hphase (hinv.idleNoTransfer hidle)
  obtain ⟨u, hut, hu⟩ := step_moves h
  have hu' : u.state ≠ .idle ∧ TransferLaw size u := by
    rcases hu with ⟨es, rfl⟩ | rfl | rfl <;> exact ⟨hbusy, transferLaw_of_sameCounters hs rfl hs.inFlight⟩
  obtain ⟨hbusyU, hsU⟩ := hu'
  exact move_keeps_transferLaw hut hbusyU hsU

end Sys2Proof.SequencerProofs
end

section
/-! PROOFS. The frame decoder (44_frame_decoder.md R114 to R126): the verdict of `DECODE` on each kind of frame, on the
frames the encoder builds, and on an accepted frame with one byte changed. -/

namespace Sys2Proof.DecoderProofs

open Sys2Proof Sys2Proof.Machine Sys2Proof.Safety

/-! ### Big-endian fields (R10, R65) -/

/-- The trailer's two bytes put the CRC together again. -/
theorem append_be16 (x : Half) : x.extractLsb' 8 8 ++ x.extractLsb' 0 8 = x :=
  (BitVec.extractLsb'_append_extractLsb'_eq_extractLsb' rfl).trans BitVec.extractLsb'_eq_self

/-- The four bytes of a field put the word together again. -/
theorem append_be32 (x : Word) :
    x.extractLsb' 24 8 ++ x.extractLsb' 16 8 ++ x.extractLsb' 8 8 ++ x.extractLsb' 0 8 = x := by
  simp only [BitVec.extractLsb'_append_extractLsb'_eq_extractLsb', BitVec.extractLsb'_eq_self]

theorem be16_append (a b : Byte) : be16 (a ++ b) = [a, b] :=
  congrArg₂ (fun x y => [x, y]) BitVec.extractLsb'_append_eq_left BitVec.extractLsb'_append_eq_right

/-! ### The bytes in `RXF` (R114) -/

theorem rxfBytes_eq_map (s : State) (n : Nat) : s.rxfBytes n = (List.range n).map (rxfByte s) := rfl

theorem byteAt_rxf {s : State} {n i : Nat} (h : i < n) : byteAt (s.rxfBytes n) i = rxfByte s i :=
  byteAt_rxfBytes s n i h

theorem getElem_rxfBytes {s : State} {n i : Nat} (h : i < (s.rxfBytes n).length) : (s.rxfBytes n)[i] = rxfByte s i :=
  getElem_bytes _ _ _ _ h

theorem rxfBytes_congr {s s' : State} {n : Nat} (h : ∀ k, k < n → rxfByte s' k = rxfByte s k) :
    s'.rxfBytes n = s.rxfBytes n :=
  bytes_congr h

theorem take_rxfBytes (s : State) {m n : Nat} (h : m ≤ n) : (s.rxfBytes n).take m = s.rxfBytes m := by
  rw [rxfBytes_eq_map, ← List.map_take, List.take_range, Nat.min_eq_left h, rxfBytes_eq_map]

theorem trailer_rxfBytes {s : State} (h : 2 ≤ s.rxfLen.toNat) :
    trailer (s.rxfBytes s.rxfLen.toNat) s.rxfLen.toNat = rxfTrailer s := by
  rw [trailer, byteAt_rxf (by omega), byteAt_rxf (by omega), rxfTrailer]

theorem crc16_take_rxfBytes (s : State) :
    crc16 ((s.rxfBytes s.rxfLen.toNat).take (s.rxfLen.toNat - 2)) = rxfCrc s := by
  rw [take_rxfBytes s (Nat.sub_le _ _), rxfBytes_eq_map, rxfCrc]

/-- A byte stored in `RXF` replaces that byte of the frame and no other. -/
theorem rxfBytes_write (s : State) (n j : Nat) (b : Byte) :
    State.rxfBytes { s with mem := s.mem.write (0x800 + j) [b] } n = (s.rxfBytes n).set j b := by
  refine List.ext_getElem (by simp) fun i hi hi' => ?_
  rw [List.getElem_set, getElem_rxfBytes, getElem_rxfBytes]
  split
  · next hij =>
    subst hij
    exact read_write_inside _ (0x800 + j) 0 [b] Nat.zero_lt_one
  · exact read_write_outside _ _ _ _ (by simp only [List.length_singleton]; omega)

/-! ### Recognition (R116, R117) -/

theorem classify_head {f : List Byte} {n : Nat} (h : 4 ≤ n ∧ byteAt f 0 = 0xFE ∧ byteAt f 1 = 0x00 ∧
    byteAt f 2 = 0xFF ∧ byteAt f 3 = 0x01) : classify f n = .head :=
  if_pos h

theorem classify_data {f : List Byte} {n : Nat} (hn : 1 ≤ n) (h : byteAt f 0 = 0xDA) : classify f n = .data := by
  simp [classify, Config.dataDelim, hn, h]

theorem classify_tail {f : List Byte} {n : Nat} (hn : 1 ≤ n) (h : byteAt f 0 = 0xED) : classify f n = .tail := by
  simp [classify, Config.dataDelim, Config.tailDelim, hn, h]

/-- No delimiter is recognised where the head delimiter is not whole and the first byte, if any, is not one. -/
theorem classify_none {f : List Byte} {n : Nat} (hhead : ¬(4 ≤ n ∧ byteAt f 0 = 0xFE ∧ byteAt f 1 = 0x00 ∧
    byteAt f 2 = 0xFF ∧ byteAt f 3 = 0x01)) (hfirst : 1 ≤ n → byteAt f 0 ≠ 0xDA ∧ byteAt f 0 ≠ 0xED) :
    classify f n = .none := by
  rw [classify, if_neg hhead, if_neg fun ⟨hn, h⟩ => (hfirst hn).1 h, if_neg fun ⟨hn, h⟩ => (hfirst hn).2 h]

/-- On `RXF` the decoder's test of the head delimiter is that of R62. -/
theorem headDelimited_iff (s : State) : headDelimited s ↔ 4 ≤ s.rxfLen.toNat ∧
    byteAt (s.rxfBytes s.rxfLen.toNat) 0 = 0xFE ∧ byteAt (s.rxfBytes s.rxfLen.toNat) 1 = 0x00 ∧
    byteAt (s.rxfBytes s.rxfLen.toNat) 2 = 0xFF ∧ byteAt (s.rxfBytes s.rxfLen.toNat) 3 = 0x01 := by
  refine and_congr_right fun hn => ?_
  rw [byteAt_rxf (by omega), byteAt_rxf (by omega), byteAt_rxf (by omega), byteAt_rxf (by omega)]

section
variable {s : State}

theorem classify_rxf_head (h : headDelimited s) : classify (s.rxfBytes s.rxfLen.toNat) s.rxfLen.toNat = .head :=
  classify_head ((headDelimited_iff s).1 h)

theorem classify_rxf_data (hmin : 1 ≤ s.rxfLen.toNat) (h : rxfByte s 0 = 0xDA) :
    classify (s.rxfBytes s.rxfLen.toNat) s.rxfLen.toNat = .data :=
  classify_data hmin ((byteAt_rxf hmin).trans h)

theorem classify_rxf_tail (hmin : 1 ≤ s.rxfLen.toNat) (h : rxfByte s 0 = 0xED) :
    classify (s.rxfBytes s.rxfLen.toNat) s.rxfLen.toNat = .tail :=
  classify_tail hmin ((byteAt_rxf hmin).trans h)

theorem classify_rxf_none (hhead : ¬ headDelimited s)
    (hfirst : s.rxfLen.toNat = 0 ∨ (rxfByte s 0 ≠ 0xDA ∧ rxfByte s 0 ≠ 0xED)) :
    classify (s.rxfBytes s.rxfLen.toNat) s.rxfLen.toNat = .none := by
  refine classify_none (fun h => hhead ((headDelimited_iff s).2 h)) fun hmin => ?_
  rw [byteAt_rxf hmin]
  exact hfirst.resolve_left (by omega)

end

/-- Every recognised shape of a right length has room for a trailer. -/
theorem five_le_of_lengthOk {t : RxType} {n : Nat} (h : lengthOk t n = true) : 5 ≤ n := by
  cases t with
  | none => cases h
  | data =>
    obtain ⟨hmin, -⟩ := Bool.and_eq_true_iff.1 h
    exact of_decide_eq_true hmin
  | head | tail =>
    have hlen := beq_iff_eq.1 h
    omega

/-- A shaped frame passes recognition and the length check. -/
theorem recognised_of_shaped {s : State} {t : RxType} (h : shaped s t) :
    classify (s.rxfBytes s.rxfLen.toNat) s.rxfLen.toNat = t ∧ lengthOk t s.rxfLen.toNat = true ∧
      s.rxfLen.toNat ≤ 1029 := by
  cases t with
  | none => exact h.elim
  | head =>
    obtain ⟨hdelim, hlen⟩ := h
    exact ⟨classify_rxf_head hdelim, beq_iff_eq.2 hlen, by omega⟩
  | data =>
    obtain ⟨hdelim, hmin, hmax⟩ := h
    refine ⟨classify_rxf_data (by omega) hdelim, ?_, hmax⟩
    simp [lengthOk, Config.maxFrame, hmin, hmax]
  | tail =>
    obtain ⟨hdelim, hlen⟩ := h
    exact ⟨classify_rxf_tail (by omega) hdelim, beq_iff_eq.2 hlen, by omega⟩

/-! ### Verdicts (R115, R124) -/

section
variable {o : Bool} {t : RxType} {f : List Byte} {n : Nat} {k : Tracker}

theorem decodeFrame_tooLong (h : 1029 < n) : decodeFrame o f n k = ({ RxRegs.zero with code := .badLength }, k) :=
  if_pos h

theorem decodeFrame_noDelimiter (hn : n ≤ 1029) (h : classify f n = .none) :
    decodeFrame o f n k = ({ RxRegs.zero with code := .noDelimiter }, k) :=
  (if_neg (Nat.not_lt.2 hn)).trans (if_pos h)

theorem decodeFrame_badLength (hn : n ≤ 1029) (ht : t ≠ .none) (h : classify f n = t)
    (hlen : lengthOk t n = false) :
    decodeFrame o f n k = ({ RxRegs.zero with kind := t, code := .badLength }, k) := by
  subst h
  exact (if_neg (Nat.not_lt.2 hn)).trans ((if_neg ht).trans (if_pos hlen))

theorem decodeFrame_recognised (hn : n ≤ 1029) (h : classify f n = t) (hlen : lengthOk t n = true) :
    decodeFrame o f n k = checkFrame o t f n k := by
  subst h
  have ht : classify f n ≠ .none := fun hnone => by simp [hnone, lengthOk] at hlen
  exact (if_neg (Nat.not_lt.2 hn)).trans ((if_neg ht).trans (if_neg (by simp [hlen])))

theorem checkFrame_badCrc (h : trailer f n ≠ crc16 (f.take (n - 2))) : checkFrame o t f n k =
    ({ RxRegs.zero with
        kind := t, code := .badCrc, recvCrc := trailer f n, calcCrc := crc16 (f.take (n - 2)) }, k) :=
  if_pos h

theorem checkFrame_badComplement (hcrc : trailer f n = crc16 (f.take (n - 2))) (ht : t = .data ∨ t = .tail)
    (h : byteAt f 2 ≠ ~~~(byteAt f 1)) : checkFrame o t f n k =
    ({ RxRegs.zero with
        kind := t, code := .badComplement, recvCrc := trailer f n, calcCrc := crc16 (f.take (n - 2)) }, k) :=
  (if_neg (not_not_intro hcrc)).trans (if_pos ⟨ht, h⟩)

theorem checkFrame_tracked (hcrc : trailer f n = crc16 (f.take (n - 2)))
    (h : t = .head ∨ byteAt f 2 = ~~~(byteAt f 1)) : checkFrame o t f n k =
    ({ extractFields t f n
        { RxRegs.zero with kind := t, recvCrc := trailer f n, calcCrc := crc16 (f.take (n - 2)) } with
        code := (track o t (byteAt f 1) k).1 }, (track o t (byteAt f 1) k).2) := by
  have hpass : ¬((t = .data ∨ t = .tail) ∧ byteAt f 2 ≠ ~~~(byteAt f 1)) := by
    rintro ⟨ht, hne⟩
    rcases h with rfl | heq
    · simp at ht
    · exact hne heq
  exact (if_neg (not_not_intro hcrc)).trans (if_neg hpass)

end

/-! ### The `DECODE` command (R115, R125) -/

/-- Where it is accepted, `DECODE` writes the verdict on the frame in `RXF` and the tracker after it. -/
theorem exec_decode {s : State} (hs : s.state ∈ [EngineState.idle, .waitChunk, .error]) {r : RxRegs} {k : Tracker}
    (h : decodeFrame s.ctrl.tailOff (s.rxfBytes s.rxfLen.toNat) s.rxfLen.toNat s.tracker = (r, k)) :
    exec .decode s = .next { s with rx := r, tracker := k } := by
  have haccepted : exec .decode s = .next (decodeRxf s) :=
    congrArg Host.Outcome.next (accept_executed (CrcProofs.accepts_imm hs) rfl)
  rw [haccepted, decodeRxf, h]

/-! ### Frames the encoder builds (R126) -/

/-- The trailer of a built frame is the CRC of its payload (R65). -/
theorem trailer_frameOf (p : List Byte) : trailer (frameOf p) (p.length + 2) = crc16 p := by
  have hhigh : byteAt (frameOf p) p.length = (crc16 p).extractLsb' 8 8 := by
    rw [byteAt, frameOf, List.getD_append_right _ _ _ _ le_rfl, Nat.sub_self]
    rfl
  have hlow : byteAt (frameOf p) (p.length + 1) = (crc16 p).extractLsb' 0 8 := by
    rw [byteAt, frameOf, List.getD_append_right _ _ _ _ (Nat.le_add_right _ 1), Nat.add_sub_cancel_left]
    rfl
  exact (congrArg₂ (· ++ ·) hhigh hlow).trans (append_be16 _)

theorem take_frameOf (p : List Byte) : (frameOf p).take (p.length + 2 - 2) = p :=
  List.take_left' rfl

/-- A built frame of a recognised shape passes every check, so its verdict is the tracker's. -/
theorem decodeFrame_frameOf {o : Bool} {p f : List Byte} {n : Nat} {t : RxType} {k : Tracker}
    (hf : f = frameOf p) (hn : n = p.length + 2) (hmax : n ≤ 1029) (hclass : classify f n = t)
    (hlen : lengthOk t n = true) (hcomplement : t = .head ∨ byteAt f 2 = ~~~(byteAt f 1)) :
    decodeFrame o f n k =
      ({ extractFields t f n { RxRegs.zero with kind := t, recvCrc := crc16 p, calcCrc := crc16 p } with
          code := (track o t (byteAt f 1) k).1 }, (track o t (byteAt f 1) k).2) := by
  subst hf hn
  have hcalc : crc16 ((frameOf p).take (p.length + 2 - 2)) = crc16 p := by rw [take_frameOf]
  rw [decodeFrame_recognised hmax hclass hlen, checkFrame_tracked ((trailer_frameOf p).trans hcalc.symm) hcomplement,
    trailer_frameOf, hcalc]

/-- The tracker on a data frame as R122 states it. -/
theorem track_data (o : Bool) (n : Byte) (k : Tracker) : track o .data n k =
    (if k.inXfer = true ∧ n = k.exp then .ok else .seqErr,
      if k.inXfer = true ∧ n = k.exp then { k with exp := k.exp + 1, cnt := k.cnt + 1 } else k) :=
  (apply_ite₂ Prod.mk _ _ _ _ _).symm

/-- The tracker on a tail frame as R123 states it. -/
theorem track_tail (o : Bool) (n : Byte) (k : Tracker) : track o .tail n k =
    (if k.inXfer = true ∧ n = k.cnt.setWidth 8 + (if o then 1 else 0) then .ok else .seqErr,
      if k.inXfer = true ∧ n = k.cnt.setWidth 8 + (if o then 1 else 0) then { k with inXfer := false } else k) := by
  have hoff : (BitVec.ofBool o).setWidth 8 = if o then (1 : Byte) else 0 := by cases o <;> rfl
  rw [track, hoff]
  exact (apply_ite₂ Prod.mk _ _ _ _ _).symm

/-- The verdict on the head frame of R62: its fields, and the tracker restarted (R120, R121). -/
theorem decodeFrame_head (o : Bool) (len addr : Word) (k : Tracker) :
    decodeFrame o (frameOf (headPayload len addr)) 14 k =
      ({ RxRegs.zero with
          kind := .head, code := .ok, recvCrc := crc16 (headPayload len addr),
          calcCrc := crc16 (headPayload len addr), len := len, addr := addr },
        { exp := 1, inXfer := true, cnt := 0 }) := by
  have hlen : be32At (frameOf (headPayload len addr)) 4 = len := append_be32 len
  have haddr : be32At (frameOf (headPayload len addr)) 8 = addr := append_be32 addr
  have hclass : classify (frameOf (headPayload len addr)) 14 = .head := classify_head ⟨by decide, rfl, rfl, rfl, rfl⟩
  rw [decodeFrame_frameOf (n := 14) rfl rfl (by decide) hclass rfl (.inl rfl),
    extractFields, hlen, haddr]
  rfl

/-- The verdict on the data frame of R63: its seq and chunk length, and the tracker's answer (R120, R122). -/
theorem decodeFrame_data (o : Bool) (n : Byte) {chunk : List Byte} (h : chunk.length ≤ 1024) (k : Tracker) :
    decodeFrame o (frameOf (dataPayload n chunk)) (chunk.length + 5) k =
      ({ RxRegs.zero with
          kind := .data
          code := if k.inXfer = true ∧ n = k.exp then .ok else .seqErr
          n := n
          chunkLen := BitVec.ofNat 11 chunk.length
          recvCrc := crc16 (dataPayload n chunk)
          calcCrc := crc16 (dataPayload n chunk) },
        if k.inXfer = true ∧ n = k.exp then { k with exp := k.exp + 1, cnt := k.cnt + 1 } else k) := by
  have hok : lengthOk .data (chunk.length + 5) = true := by
    simp [lengthOk, Config.maxFrame, h]
  have hmax : chunk.length + 5 ≤ 1029 := Nat.add_le_add_right h 5
  have hsize : chunk.length + 5 = (dataPayload n chunk).length + 2 := by simp
  have hseq : byteAt (frameOf (dataPayload n chunk)) 1 = n := rfl
  rw [decodeFrame_frameOf rfl hsize hmax (classify_data (Nat.le_add_left 1 _) rfl) hok (.inr rfl), hseq, track_data]
  rfl

/-- The verdict on the tail frame of R64: its count, and the tracker's answer (R120, R123). -/
theorem decodeFrame_tail (o : Bool) (n : Byte) (k : Tracker) :
    decodeFrame o (frameOf (tailPayload n)) 5 k =
      ({ RxRegs.zero with
          kind := .tail
          code := if k.inXfer = true ∧ n = k.cnt.setWidth 8 + (if o then 1 else 0) then .ok else .seqErr
          n := n
          recvCrc := crc16 (tailPayload n)
          calcCrc := crc16 (tailPayload n) },
        if k.inXfer = true ∧ n = k.cnt.setWidth 8 + (if o then 1 else 0) then { k with inXfer := false } else k) := by
  have hcount : byteAt (frameOf (tailPayload n)) 1 = n := rfl
  have hclass : classify (frameOf (tailPayload n)) 5 = .tail := classify_tail (by decide) rfl
  rw [decodeFrame_frameOf (n := 5) rfl rfl (by decide) hclass rfl (.inr rfl), hcount, track_tail]
  rfl

/-- `DECODE` of a frame that `RXF` holds whole, by its verdict. -/
theorem exec_decode_of_rxf {s : State} (hs : s.state ∈ [EngineState.idle, .waitChunk, .error]) {f : List Byte}
    {n : Nat} {r : RxRegs} {k : Tracker} (hn : s.rxfLen.toNat = n) (hf : (List.range n).map (rxfByte s) = f)
    (h : decodeFrame s.ctrl.tailOff f n s.tracker = (r, k)) :
    exec .decode s = .next { s with rx := r, tracker := k } := by
  subst hn hf
  exact exec_decode hs h

/-- Settles O46: `RXF` holds the head frame, whose verdict is known. -/
theorem decodeAcceptsTheHeadFrameBuilt : Obligations.DecodeAcceptsTheHeadFrameBuilt := by
  rintro s p len addr hs rfl hlen hrxf
  exact exec_decode_of_rxf hs (congrArg BitVec.toNat hlen) hrxf (decodeFrame_head _ len addr _)

/-- Settles O47: `RXF` holds the data frame, whose verdict is known. -/
theorem decodeTracksTheDataFrameBuilt : Obligations.DecodeTracksTheDataFrameBuilt := by
  rintro s p chunk n hs rfl hchunk hlen hrxf
  exact exec_decode_of_rxf hs hlen hrxf (decodeFrame_data _ n hchunk _)

/-- Settles O48: `RXF` holds the tail frame, whose verdict is known. -/
theorem decodeTracksTheTailFrameBuilt : Obligations.DecodeTracksTheTailFrameBuilt := by
  rintro s p n hs rfl hlen hrxf
  exact exec_decode_of_rxf hs (congrArg BitVec.toNat hlen) hrxf (decodeFrame_tail _ n _)

/-! ### What `DECODE` reads and writes (R125) -/

/-- Settles O43: the verdict is a function of the frame in `RXF`, its length, `CTRL.TAILOFF` and the tracker. -/
theorem decodeReadsAndWritesOnlyTheDecoder : Obligations.DecodeReadsAndWritesOnlyTheDecoder := by
  intro s s' hs hs' hlen htail htracker hbytes
  refine ⟨_, _, exec_decode hs Prod.mk.eta.symm, exec_decode hs' ?_⟩
  rw [hlen, htail, htracker, rxfBytes_congr hbytes]

/-! ### Rejected frames (R124) -/

/-- Settles O44: each clause is one of the verdicts before the CRC check, with its delimiter read off `RXF`. -/
theorem decodeRejectsBadDelimitersAndLengths : Obligations.DecodeRejectsBadDelimitersAndLengths := by
  intro s hs
  refine ⟨fun hlong => ?tooLong, fun hmax hhead hfirst => ?noDelimiter, fun hmax hhead hlen => ?head,
    fun hmin hshort hdelim => ?data, fun hmin hmax hlen hdelim => ?tail⟩
  case tooLong => exact exec_decode hs (decodeFrame_tooLong hlong)
  case noDelimiter => exact exec_decode hs (decodeFrame_noDelimiter hmax (classify_rxf_none hhead hfirst))
  case head =>
    exact exec_decode hs (decodeFrame_badLength hmax (by decide) (classify_rxf_head hhead)
      (beq_eq_false_iff_ne.2 hlen))
  case data =>
    have hbad : lengthOk .data s.rxfLen.toNat = false := by
      simp [lengthOk, Nat.not_le.2 hshort]
    exact exec_decode hs (decodeFrame_badLength (by omega) (by decide) (classify_rxf_data hmin hdelim) hbad)
  case tail =>
    exact exec_decode hs (decodeFrame_badLength hmax (by decide) (classify_rxf_tail hmin hdelim)
      (beq_eq_false_iff_ne.2 hlen))

/-- Settles O45: a shaped frame comes to the CRC check and, when that passes, to the complement check. -/
theorem decodeRejectsBadCrcAndComplement : Obligations.DecodeRejectsBadCrcAndComplement := by
  intro s t hs hshaped
  obtain ⟨hclass, hlen, hmax⟩ := recognised_of_shaped hshaped
  have hmin := five_le_of_lengthOk hlen
  have htrailer := trailer_rxfBytes (s := s) (by omega)
  have hcalc := crc16_take_rxfBytes s
  rw [← htrailer, ← hcalc]
  refine ⟨fun hne => ?crc, fun heq hhead hcomplement => ?complement⟩
  case crc => exact exec_decode hs ((decodeFrame_recognised hmax hclass hlen).trans (checkFrame_badCrc hne))
  case complement =>
    have ht : t = .data ∨ t = .tail := by
      cases t with
      | none => exact hshaped.elim
      | head => exact absurd rfl hhead
      | data => exact .inl rfl
      | tail => exact .inr rfl
    rw [← byteAt_rxf (n := s.rxfLen.toNat) (by omega), ← byteAt_rxf (n := s.rxfLen.toNat) (by omega)] at hcomplement
    exact exec_decode hs
      ((decodeFrame_recognised hmax hclass hlen).trans (checkFrame_badComplement heq ht hcomplement))

/-! ### One changed byte (R118, section 4) -/

/-- A frame is the bytes before its trailer and the trailer. -/
theorem take_append_trailer {f : List Byte} (h : 2 ≤ f.length) :
    f.take (f.length - 2) ++ be16 (trailer f f.length) = f := by
  rw [trailer, be16_append, byteAt, byteAt, List.getD_eq_getElem _ _ (by omega), List.getD_eq_getElem _ _ (by omega)]
  have htail : f.drop (f.length - 2) = [f[f.length - 2], f[f.length - 1]] := by
    rw [List.drop_eq_getElem_cons (by omega), List.drop_eq_getElem_cons (by omega)]
    simp [show f.length - 2 + 1 = f.length - 1 by omega, show f.length - 1 + 1 = f.length by omega]
  rw [← htail, List.take_append_drop]

/-- The equivalent test of R118: the CRC of an accepted frame with its trailer is zero. -/
theorem crc16_eq_zero_of_accepted {o : Bool} {f : List Byte} {k : Tracker}
    (h : (decodeFrame o f f.length k).1.code = .ok) : crc16 f = 0x0000 := by
  rcases decodeFrame_cases o f f.length k with ⟨_, hv⟩ | ⟨_, _, hv⟩ | ⟨_, _, _, hv⟩ | ⟨_, _, hlen, hv⟩ <;>
    rw [hv] at h
  case inr.inr.inr =>
    have hmin := five_le_of_lengthOk hlen
    have hcrc : trailer f f.length = crc16 (f.take (f.length - 2)) := by
      by_contra hne
      rw [checkFrame_badCrc hne] at h
      cases h
    have hframe := take_append_trailer (f := f) (by omega)
    rw [← hframe, hcrc]
    exact CrcProofs.crcResidueIsZero _
  all_goals cases h

/-- Replacing one byte of a list by another changes its CRC. -/
theorem crc16_set_ne {f : List Byte} {j : Nat} {b : Byte} (hj : j < f.length) (hb : b ≠ f[j]) :
    crc16 (f.set j b) ≠ crc16 f := by
  have hsplit : f = f.take j ++ f[j] :: f.drop (j + 1) := by
    rw [← List.drop_eq_getElem_cons hj, List.take_append_drop]
  rw [List.set_eq_take_cons_drop b hj]
  conv_rhs => rw [hsplit]
  exact CrcProofs.crcDetectsOneByteChange _ _ _ _ hb

/-- What `DECODE` accepts is a frame whose CRC with its trailer is zero. -/
theorem crc16_rxfBytes_of_accepted {s t : State} (hs : s.state ∈ [EngineState.idle, .waitChunk, .error])
    (h : exec .decode s = .next t) (hok : t.rx.code = .ok) : crc16 (s.rxfBytes s.rxfLen.toNat) = 0x0000 := by
  obtain rfl := Host.Outcome.next.inj ((exec_decode hs Prod.mk.eta.symm).symm.trans h)
  refine crc16_eq_zero_of_accepted (o := s.ctrl.tailOff) (k := s.tracker) ?_
  rw [length_rxfBytes]
  exact hok

/-- Settles O49: were both frames accepted, both would have CRC zero, and one changed byte changes the CRC. -/
theorem decodeRejectsOneByteChange : Obligations.DecodeRejectsOneByteChange := by
  intro s t t' j b hs hj hb hexec hexec' hok hok'
  have hzero := crc16_rxfBytes_of_accepted hs hexec hok
  have hzero' := crc16_rxfBytes_of_accepted (s := { s with mem := s.mem.write (0x800 + j) [b] }) hs hexec' hok'
  rw [rxfBytes_write] at hzero'
  refine crc16_set_ne (by simpa using hj) ?_ (hzero'.trans hzero.symm)
  rwa [getElem_rxfBytes]

end Sys2Proof.DecoderProofs
end

section
/-! PROOFS. The control commands and resets (45_control.md R129 to R131, 70_reset_and_hazards.md R150, R152, R153), the
refusals of a busy block and the operand faults (45_control.md R127, R128, R136), and the step of a block for which no
event is scheduled (R134, 60_exceptions.md R149). -/

namespace Sys2Proof.ControlProofs

open Sys2Proof Sys2Proof.Machine Sys2Proof.Safety Sys2Proof.StateProofs Sys2Proof.MemoryProofs Sys2Proof.EncodingProofs
  Sys2Proof.BuildProofs

/-! ### `NOP`, `CLEAR`, `SRESET` and the reset input (R129 to R131, R150) -/

/-- `CLEAR` is accepted in IDLE and ERROR (R68). -/
theorem accepts_clear {st : EngineState} (h : st ∈ [EngineState.idle, .error]) : accepts .clear st = true := by
  revert h
  cases st <;> decide

theorem exec_nop {s : State} (hs : s.state ∈ [EngineState.idle, .waitChunk, .error]) : exec .nop s = .next s :=
  congrArg Host.Outcome.next (accept_executed (CrcProofs.accepts_imm hs) rfl)

theorem exec_clear {s : State} (hs : s.state ∈ [EngineState.idle, .error]) : exec .clear s = .next (clearError s) :=
  congrArg Host.Outcome.next (accept_executed (accepts_clear hs) rfl)

/-- Settles O57: `NOP` and `CLEAR` are executed where the state accepts them, and both resets are `Reset()` of R152. -/
theorem controlCommandsDoAsStated : Obligations.ControlCommandsDoAsStated :=
  fun _ _ => ⟨exec_nop, exec_clear, rfl, step_of_scheduled⟩

/-- The invariant of R40 gives an IDLE block the values that `CLEAR` writes. -/
theorem clearError_of_idle {s : State} (hinv : ControlInv s) (hs : s.state = .idle) : clearError s = s := by
  have hnoError : s.state ≠ .error := by simp [hs]
  have hcode : s.errCode = .none := not_not.1 fun h => hnoError (hinv.errCodeIff.1 h)
  rw [clearError, ← hinv.errInfoZero hnoError, ← hinv.idleNoTransfer hs, ← hcode, ← hs]

/-- Settles O58: `CLEAR` writes the values that the invariant of R40 already gives an IDLE block. -/
theorem clearInIdleChangesNothing : Obligations.ClearInIdleChangesNothing := by
  intro s hinv hs
  rw [exec_clear (by simp [hs]), clearError_of_idle hinv hs]

/-! ### The busy refusal (R127, R136) -/

/-- No command but `SRESET` is accepted in a busy state (R68). -/
theorem not_mem_acceptingStates_of_busy {i : Instr} (hi : i ≠ .sreset) {st : EngineState}
    (hst : st ∈ [EngineState.flush, .tx, .waitAck, .settle]) : st ∉ acceptingStates i := by
  cases i with
  | sreset => exact absurd rfl hi
  | _ => revert hst; cases st <;> simp [acceptingStates]

/-- A busy block refuses every word but that of `SRESET`: a legal one as its state accepts no such command, any other as
an illegal one (R69). -/
theorem onCmdWrite_busy {w : Word} (hw : w ≠ 0x0000003F) {s : State}
    (hs : s.state ∈ [EngineState.flush, .tx, .waitAck, .settle]) : onCmdWrite w s = .next (setOvr s) := by
  cases hdecode : decode w with
  | some i =>
    have hi : i ≠ .sreset := by
      rintro rfl
      exact hw ((decode_eq_some_iff w .sreset).1 hdecode).symm
    simp only [onCmdWrite, hdecode]
    exact refusedCommandOnlySetsOverrun i s (not_mem_acceptingStates_of_busy hi hs)
  | none =>
    have hillegal : legal w = false := by rw [← isSome_decode, hdecode, Option.isSome_none]
    have hstate : ¬(s.state = .idle ∨ s.state = .waitChunk) := by rintro (h | h) <;> simp [h] at hs
    rw [onCmdWrite_illegal hillegal, illegalCommand_eq, if_neg hstate]

/-- Settles O7: the event is a write to `CMD`, and a busy block refuses its word. -/
theorem busyBlockRefusesEveryWord : Obligations.BusyBlockRefusesEveryWord := by
  intro s off w rest hinputs hoff hw hs
  calc step s = onHostWrite off w (s.withInputs rest) := step_of_hostWrite hinputs
    _ = onCmdWrite w (s.withInputs rest) := onHostWrite_cmd hoff w _
    _ = .next (setOvr (s.withInputs rest)) := onCmdWrite_busy hw hs

/-! ### Operand faults (R128) -/

/-- An operand fault outside IDLE and WAIT_CHUNK raises no error (R127). -/
theorem accept_fault_of_error {g : CmdGroup} {op : Byte} {f : Bool} {e s : State} (ha : accepts g s.state = true)
    (hs : s.state = .error) (hf : f = true) : accept g op f e s = setOvr s := by
  rw [hs] at ha
  simp [accept, State.busy, acceptanceError, hs, ha, hf]

/-- Whether a command has an operand fault in the state (R128). That it is the fault that acceptance sees is said by
`exec_eq_accept_operandFault`. -/
def operandFault (s : State) : Instr → Bool
  | .crcBuf | .sendData _ | .sendFrame _ => chunkTooLong s
  | .xferNext => chunkMismatch s
  | .nop | .crcInit | .crcByte _ | .crcFinish | .sendHead | .sendTail _ | .xferStart | .decode | .clear
  | .sreset => false

/-- Every command but `SRESET` is an acceptance with its opcode and its operand fault, and the command's own rule
never enters ERROR. -/
theorem exec_eq_accept_operandFault {i : Instr} (hi : i ≠ .sreset) (s : State) : ∃ g executed,
    exec i s = .next (accept g (opcode i) (operandFault s i) executed s) ∧
      (s.state ≠ .error → executed.state ≠ .error) := by
  cases i with
  | sreset => exact absurd rfl hi
  | nop | crcInit | crcByte | crcFinish | crcBuf | decode => exact ⟨_, _, rfl, id⟩
  | sendHead | sendData | sendTail | sendFrame | xferStart | xferNext | clear => exact ⟨_, _, rfl, fun _ => by simp⟩

/-- A command enters ERROR by its operand fault alone. -/
theorem operandFault_of_enters_error {i : Instr} {s t : State} (h : exec i s = .next t) (hs : s.state ≠ .error)
    (ht : t.state = .error) : operandFault s i = true := by
  by_cases hi : i = .sreset
  · subst hi
    cases h
    cases ht
  · obtain ⟨g, e, hexec, he⟩ := exec_eq_accept_operandFault hi s
    obtain rfl := Host.Outcome.next.inj (hexec.symm.trans h)
    rcases accept_cases g (opcode i) (operandFault s i) e s with hovr | ⟨_, hfault, _⟩ | ⟨_, _, _, hdone⟩
    · rw [hovr] at ht
      exact absurd ht hs
    · exact hfault
    · rw [hdone] at ht
      exact absurd ht (he hs)

/-- The commands and the chunk lengths that have an operand fault. -/
theorem operandFault_cases {i : Instr} {s : State} (h : operandFault s i = true) :
    ((i = .crcBuf ∨ (∃ n, i = .sendData n) ∨ ∃ c, i = .sendFrame c) ∧ 1024 < s.chunkLen.toNat) ∨
    (i = .xferNext ∧ s.chunkLen.toNat ≠ min 1024 s.remain.toNat) := by
  cases i with
  | crcBuf => exact .inl ⟨.inl rfl, of_decide_eq_true h⟩
  | sendData n => exact .inl ⟨.inr (.inl ⟨n, rfl⟩), of_decide_eq_true h⟩
  | sendFrame c => exact .inl ⟨.inr (.inr ⟨c, rfl⟩), of_decide_eq_true h⟩
  | xferNext => exact .inr ⟨rfl, of_decide_eq_true h⟩
  | _ => cases h

/-- Settles O17: each faulty command is accepted and faults, and a command enters ERROR by its operand fault alone. -/
theorem chunkLengthFaults : Obligations.ChunkLengthFaults := by
  refine ⟨fun s n c => ⟨fun hlong => ?tooLong, fun hs hlen => ?mismatch⟩, fun i s t h hs ht => ?only⟩
  case tooLong =>
    have hfault : chunkTooLong s = true := decide_eq_true hlong
    refine ⟨fun hs => ?_, fun hs => ?_, fun hs => ⟨?_, ?_⟩⟩
    · have haccepts : accepts .imm s.state = true := CrcProofs.accepts_imm (by rcases hs with h | h <;> simp [h])
      exact congrArg Host.Outcome.next (accept_fault haccepts hs hfault)
    · have haccepts : accepts .imm s.state = true := CrcProofs.accepts_imm (by simp [hs])
      exact congrArg Host.Outcome.next (accept_fault_of_error haccepts hs hfault)
    · exact congrArg Host.Outcome.next (accept_fault (accepts_link hs) (.inl hs) hfault)
    · exact congrArg Host.Outcome.next (accept_fault (accepts_link hs) (.inl hs) hfault)
  case mismatch =>
    have hfault : chunkMismatch s = true := decide_eq_true hlen
    exact congrArg Host.Outcome.next (accept_fault (accepts_next hs) (.inr hs) hfault)
  case only => exact operandFault_cases (operandFault_of_enters_error h hs ht)

/-! ### The step with no event scheduled (R134, R149) -/

theorem step_of_unscheduled {s : State} (h : s.env.inputs = []) : step s = unscheduled s := by
  simp only [step, nextEvent, h]

theorem freeDraw_of_rest {s : State} (hs : s.state ∈ [EngineState.idle, .waitChunk, .error]) : freeDraw s = none := by
  simp only [List.mem_cons, List.not_mem_nil, or_false] at hs
  rcases hs with h | h | h <;> simp only [freeDraw, h]

theorem freeDraw_of_busy {s : State} (hs : s.state ∈ [EngineState.flush, .tx, .waitAck, .settle]) :
    ∃ d, freeDraw s = some d := by
  simp only [List.mem_cons, List.not_mem_nil, or_false] at hs
  rcases hs with h | h | h | h <;> simp only [freeDraw, h] <;> exact ⟨_, rfl⟩

/-- Every outcome of a read ends the WAIT_ACK state (R94, R97). -/
theorem waitAckStep_state_ne (r : ReadOutcome) (s : State) : (waitAckStep r s).state ≠ .waitAck := by
  rcases waitAckStep_cases r s with ⟨v, l, c, x, y, k, h, _⟩ | ⟨_, v, l, n, m, h⟩ <;> rw [h]
  · simp
  · exact (LinkProofs.success_state _).2

/-- Every engine step leaves its state (R134). -/
theorem engineStep_leaves {d : Draw} {s t : State} (h : engineStep d s = .next t) : t.state ≠ s.state := by
  unfold engineStep at h
  split at h <;> cases h
  all_goals
    rename_i hs
    rw [hs]
  case h_1 | h_2 => simp [flushStep, transportError]
  case h_3 | h_4 => simp [txStep, transportError]
  case h_5 | h_6 | h_7 => exact waitAckStep_state_ne _ _
  case h_8 => simp

/-- Settles O41: a free draw is made exactly in the busy states, it fits the state, and the engine step it gives leaves
that state. -/
theorem unscheduledEngineStepsOrRests : Obligations.UnscheduledEngineStepsOrRests := by
  intro s hinputs
  refine ⟨fun hs => ?rests, fun hs => ?steps⟩
  case rests =>
    rw [step_of_unscheduled hinputs]
    simp only [unscheduled, freeDraw_of_rest hs]
  case steps =>
    obtain ⟨d, hd⟩ := freeDraw_of_busy hs
    obtain ⟨t, ht⟩ := unscheduled_next s
    have hown : unscheduled s = engineStep d (countDraw s) := by simp only [unscheduled, hd]
    have hstep := step_of_unscheduled hinputs
    exact ⟨d, t, drawFits_of_freeDraw hd, hstep.trans hown, hstep.trans ht,
      engineStep_leaves (s := countDraw s) (hown.symm.trans ht)⟩

end Sys2Proof.ControlProofs
end

section
/-! PROOFS. ERROR and its record (60_exceptions.md R138, R141, R142): what every event but the three exits of R141 leaves
of a block in ERROR. -/

namespace Sys2Proof.ErrorProofs

open Sys2Proof Sys2Proof.Machine Sys2Proof.Safety Sys2Proof.StateProofs Sys2Proof.MemoryProofs Sys2Proof.EncodingProofs
  Sys2Proof.BuildProofs Sys2Proof.ControlProofs

/-- `t` is in ERROR with the record that stands in `s`: `ERRCODE`, `ERRINFO` and the `XPHASE` of the transfer that failed
(R138, R141). -/
def ErrorStands (s t : State) : Prop :=
  t.state = .error ∧ t.errCode = s.errCode ∧ t.errInfo = s.errInfo ∧ t.xphase = s.xphase

theorem errorStands_refl {s : State} (hs : s.state = .error) : ErrorStands s s := ⟨hs, rfl, rfl, rfl⟩

theorem errorStands_setOvr {s : State} (hs : s.state = .error) : ErrorStands s (setOvr s) := ⟨hs, rfl, rfl, rfl⟩

theorem errorStands_hostStore {s : State} (hs : s.state = .error) (off : Offset) (v : Word) :
    ErrorStands s (hostStore off v s) := by
  obtain ⟨_, _, _, _, _, _, _, _, _, h, _⟩ := hostStore_frame off v s
  rw [h]
  exact ⟨hs, rfl, rfl, rfl⟩

/-- Acceptance raises no error in ERROR, so the record stands where the command's own rule keeps it (R127, R142). -/
theorem errorStands_accept {g : CmdGroup} {op : Byte} {f : Bool} {e s : State} (hs : s.state = .error)
    (he : ErrorStands s e) : ErrorStands s (accept g op f e s) := by
  rcases accept_cases g op f e s with hovr | ⟨hraising, _, _⟩ | ⟨_, _, _, hdone⟩
  · rw [hovr]
    exact errorStands_setOvr hs
  · simp [hs] at hraising
  · rw [hdone]
    exact he

/-- A command that ERROR does not accept leaves its record (R68). -/
theorem errorStands_refused {i : Instr} {s t : State} (hs : s.state = .error)
    (hrefused : EngineState.error ∉ acceptingStates i) (h : exec i s = .next t) : ErrorStands s t := by
  obtain rfl := Host.Outcome.next.inj ((refusedCommandOnlySetsOverrun i s (hs ▸ hrefused)).symm.trans h)
  exact errorStands_setOvr hs

/-- Of the commands only `CLEAR` and `SRESET` touch the record: the CRC commands and `DECODE` write other registers, and
ERROR refuses those that build a frame (R68, R141). -/
theorem errorStands_exec {i : Instr} {s t : State} (hs : s.state = .error) (h : exec i s = .next t) :
    ErrorStands s t ∨ i = .clear ∨ i = .sreset := by
  cases i with
  | clear => exact .inr (.inl rfl)
  | sreset => exact .inr (.inr rfl)
  | nop | crcInit | crcByte | crcFinish | crcBuf | decode =>
    cases h
    exact .inl (errorStands_accept hs ⟨hs, rfl, rfl, rfl⟩)
  | sendHead | sendData | sendTail | sendFrame | xferStart | xferNext =>
    exact .inl (errorStands_refused hs (by simp [acceptingStates]) h)

/-- A word written to `CMD` in ERROR leaves the record, but for the words of `CLEAR` and `SRESET` (R69, R141). -/
theorem errorStands_onCmdWrite {w : Word} {s t : State} (hs : s.state = .error) (h : onCmdWrite w s = .next t) :
    ErrorStands s t ∨ w = 0x0000003E ∨ w = 0x0000003F := by
  cases hdecode : decode w with
  | some i =>
    have hword : w = encode i := ((decode_eq_some_iff w i).1 hdecode).symm
    rw [onCmdWrite_legal hdecode] at h
    rcases errorStands_exec hs h with hstands | rfl | rfl
    · exact .inl hstands
    · exact .inr (.inl hword)
    · exact .inr (.inr hword)
  | none =>
    have hillegal : legal w = false := by rw [← isSome_decode, hdecode, Option.isSome_none]
    rw [onCmdWrite_illegal hillegal, illegalCommand_eq, if_neg (by simp [hs])] at h
    cases h
    exact .inl (errorStands_setOvr hs)

/-- No engine step is enabled in ERROR (R134, R142). -/
theorem engineStep_of_error {s : State} (hs : s.state = .error) (d : Draw) :
    engineStep d s = .fault .undefinedEvent := by
  rcases engineStep_cases d s with ⟨hfits, _⟩ | ⟨_, hfault⟩
  · rw [hs] at hfits
    cases d <;> cases hfits
  · exact hfault

/-- An event taken in ERROR leaves the record, but for the exits of R141. -/
theorem errorStands_onEvent {e : Event} {s t : State} (hs : s.state = .error) (h : onEvent e s = .next t) :
    ErrorStands s t ∨
    (∃ off w, e = .hostWrite off w ∧ off &&& ~~~3 = 0x004 ∧ (w = 0x0000003E ∨ w = 0x0000003F)) ∨ e = .resetInput := by
  cases e with
  | hostRead off =>
    cases h
    exact .inl ⟨hs, rfl, rfl, rfl⟩
  | hostWrite off w =>
    change onHostWrite off w s = .next t at h
    by_cases hcmd : off &&& ~~~3 = 0x004
    · rw [onHostWrite_cmd hcmd] at h
      exact (errorStands_onCmdWrite hs h).imp_right fun hw => .inl ⟨off, w, rfl, hcmd, hw⟩
    · rw [onHostWrite_store hcmd] at h
      cases h
      exact .inl (errorStands_hostStore hs off w)
  | engineStep d => exact nomatch (engineStep_of_error hs d).symm.trans h
  | resetInput => exact .inr (.inr rfl)

/-- Settles O42: with no event the block rests in ERROR, and a scheduled event leaves the record or is an exit of
R141. -/
theorem errorStandsUntilCleared : Obligations.ErrorStandsUntilCleared := by
  intro s t hs h
  cases hinputs : s.env.inputs with
  | nil =>
    have hrest : step s = .next s := (unscheduledEngineStepsOrRests s hinputs).1 (by simp [hs])
    obtain rfl := Host.Outcome.next.inj (hrest.symm.trans h)
    exact .inl (errorStands_refl hs)
  | cons e rest =>
    rw [step_of_scheduled hinputs] at h
    rcases errorStands_onEvent (s := s.withInputs rest) hs h with hstands | ⟨off, w, rfl, hcmd, hw⟩ | rfl
    · exact .inl hstands
    · exact .inr (.inl ⟨off, w, rest, rfl, hcmd, hw⟩)
    · exact .inr (.inr ⟨rest, rfl⟩)

end Sys2Proof.ErrorProofs
end

section
/-! PROOFS. The state `Reset()` gives (70_reset_and_hazards.md R152): IDLE with no transfer and no error, memory empty and
no link request recorded, whatever the reset parameters are and whatever events are to come. -/

namespace Sys2Proof.ResetProofs

open Sys2Proof Sys2Proof.Machine Sys2Proof.Safety Sys2Proof.LinkProofs

section resetFields
variable (p : Params)

@[simp] theorem resetWith_state : (State.resetWith p).state = .idle := rfl
@[simp] theorem resetWith_xphase : (State.resetWith p).xphase = .none := rfl
@[simp] theorem resetWith_errCode : (State.resetWith p).errCode = .none := rfl
@[simp] theorem resetWith_errInfo : (State.resetWith p).errInfo = { exp := 0, rx := 0, cls := 0, op := 0 } := rfl
@[simp] theorem resetWith_txfLen : (State.resetWith p).txfLen = 0 := rfl
@[simp] theorem resetWith_mem : (State.resetWith p).mem = { cells := [] } := rfl
@[simp] theorem resetWith_link : (State.resetWith p).env.link = [] := rfl

end resetFields

/-- The control invariant says nothing of the environment. -/
theorem controlInv_withInputs {s : State} (h : ControlInv s) (es : List Event) : ControlInv (s.withInputs es) :=
  { h with }

/-- Of the environment, the soundness of frames sees the record of link requests only. -/
theorem framesSound_withInputs {s : State} (h : FramesSound s) (es : List Event) : FramesSound (s.withInputs es) :=
  framesSound_of_quiet h rfl h.inTxf

/-- Of the environment, the wire order sees the record of link requests only. -/
theorem wireOrder_withInputs {s : State} (h : WireOrder s) (es : List Event) : WireOrder (s.withInputs es) :=
  { h with }

/-- In IDLE with no transfer, no error and empty memory the clauses of R40 about the other states are void. -/
theorem controlInv_resetWith (p : Params) : ControlInv (State.resetWith p) where
  memWf := wf_empty
  memInBuffers := by simp
  idleNoTransfer _ := resetWith_xphase p
  waitChunkData := by simp
  settleTail := by simp
  errCodeIff := by simp
  errInfoZero _ := resetWith_errInfo p
  txfLenBound := by simp

/-- No handshake is under way and nothing was handed to the link. -/
theorem framesSound_resetWith (p : Params) : FramesSound (State.resetWith p) where
  inTxf := by simp [inHandshake]
  written := by simp

/-- The empty record is in order, and IDLE waits neither to write nor to read. -/
theorem wireOrder_resetWith (p : Params) : WireOrder (State.resetWith p) :=
  wireOrder_of_ordered rfl (by simp) (by simp)

/-- Settles O40: the reset state meets each invariant, and none of them depends on the events to come. -/
theorem resetEstablishesTheInvariants : Obligations.ResetEstablishesTheInvariants := fun p es =>
  ⟨controlInv_withInputs (controlInv_resetWith p) es, framesSound_withInputs (framesSound_resetWith p) es,
    wireOrder_withInputs (wireOrder_resetWith p) es⟩

end Sys2Proof.ResetProofs
end

section
/-! PROOFS. The control invariant of 10_state.md section 8 (R40): its clauses by what they speak of, and that every move
of the block keeps them. -/

namespace Sys2Proof.ControlInvProofs

open Sys2Proof Sys2Proof.Machine Sys2Proof.Safety Sys2Proof.LinkProofs Sys2Proof.BuildProofs Sys2Proof.ResetProofs

/-! ### Memory (R42, log 11) -/

/-- Memory in its canonical form that lists buffer bytes only. -/
def BufferMemory (m : Memory) : Prop := m.wf ∧ ∀ c ∈ m.cells, inBuffer c.1 = true

theorem controlInv_bufferMemory {s : State} (hs : ControlInv s) : BufferMemory s.mem := ⟨hs.memWf, hs.memInBuffers⟩

/-- A write that stays in the buffers keeps memory so. -/
theorem bufferMemory_write {m : Memory} {base : Nat} {bs : List Byte} (hm : BufferMemory m)
    (hrange : ∀ a, base ≤ a → a < base + bs.length → inBuffer a = true) : BufferMemory (m.write base bs) := by
  obtain ⟨hwf, hin⟩ := hm
  refine ⟨wf_write m base bs hwf, fun c hc => ?_⟩
  rcases mem_cells_write hc with hold | ⟨hlow, hhigh⟩
  · exact hin c hold
  · exact hrange c.1 hlow hhigh

/-- A frame of at most 1029 bytes lies in `TXF` (R84). -/
theorem bufferMemory_build {s : State} (hm : BufferMemory s.mem) {p : List Byte} (hp : p.length ≤ 1027)
    (c : FrameClass) (op : Byte) : BufferMemory (build p c op s).mem := by
  rw [build_mem]
  refine bufferMemory_write hm fun a hlow hhigh => (inBuffer_iff a).2 (.inr (.inr ?_))
  simp only [txfRegion, length_frameOf] at hlow hhigh
  omega

/-- A host store writes bytes of `CHUNK` and `RXF` alone (R132). -/
theorem bufferMemory_hostStore {s : State} (hm : BufferMemory s.mem) (off : Offset) (v : Word) :
    BufferMemory (hostStore off v s).mem := by
  obtain ⟨_, _, _, _, _, _, _, _, m, h, hmem⟩ := hostStore_frame off v s
  rw [h]
  rcases hmem with rfl | ⟨base, bs, rfl, hrange⟩
  · exact hm
  · refine bufferMemory_write hm fun a hlow hhigh => (inBuffer_iff a).2 ?_
    omega

/-! ### The clauses about the control fields -/

/-- The fields that the invariant speaks of, but for memory. -/
def controlFields (s : State) : EngineState × XferPhase × ErrCode × ErrInfo × BufLen :=
  (s.state, s.xphase, s.errCode, s.errInfo, s.txfLen)

theorem controlFields_eq_iff {s t : State} : controlFields t = controlFields s ↔
    t.state = s.state ∧ t.xphase = s.xphase ∧ t.errCode = s.errCode ∧ t.errInfo = s.errInfo ∧ t.txfLen = s.txfLen := by
  simp [controlFields]

/-- The transfer phase that IDLE, WAIT_CHUNK and SETTLE ask for (R40). -/
def PhaseFits (s : State) : Prop :=
  (s.state = .idle → s.xphase = .none) ∧ (s.state = .waitChunk → s.xphase = .data) ∧
    (s.state = .settle → s.xphase = .tail)

/-- No error is recorded (R35, R141). -/
def NoErrorRecord (s : State) : Prop := s.errCode = .none ∧ s.errInfo = { exp := 0, rx := 0, cls := 0, op := 0 }

theorem noErrorRecord_of_controlInv {s : State} (hs : ControlInv s) (hstate : s.state ≠ .error) : NoErrorRecord s :=
  ⟨not_not.1 fun h => hstate (hs.errCodeIff.1 h), hs.errInfoZero hstate⟩

/-- The invariant looks at memory and the control fields alone. -/
theorem controlInv_of_sameControl {s t : State} (hs : ControlInv s) (hsame : controlFields t = controlFields s)
    (hm : BufferMemory t.mem) : ControlInv t := by
  obtain ⟨hstate, hphase, hcode, hinfo, hlen⟩ := controlFields_eq_iff.1 hsame
  obtain ⟨hwf, hin⟩ := hm
  refine ⟨hwf, hin, ?_, ?_, ?_, ?_, ?_, ?_⟩
  · rw [hstate, hphase]; exact hs.idleNoTransfer
  · rw [hstate, hphase]; exact hs.waitChunkData
  · rw [hstate, hphase]; exact hs.settleTail
  · rw [hstate, hcode]; exact hs.errCodeIff
  · rw [hstate, hinfo]; exact hs.errInfoZero
  · rw [hlen]; exact hs.txfLenBound

/-- Outside ERROR the invariant asks for no error record and a phase that fits the state. -/
theorem controlInv_of_noError {t : State} (hstate : t.state ≠ .error) (hrecord : NoErrorRecord t) (hphase : PhaseFits t)
    (hm : BufferMemory t.mem) (hlen : t.txfLen.toNat ≤ 1029) : ControlInv t := by
  obtain ⟨hcode, hinfo⟩ := hrecord
  obtain ⟨hidle, hwaitChunk, hsettle⟩ := hphase
  obtain ⟨hwf, hin⟩ := hm
  exact ⟨hwf, hin, hidle, hwaitChunk, hsettle, by simp [hcode, hstate], fun _ => hinfo, hlen⟩

/-- Entering ERROR with a code keeps the invariant, from any state (R138). -/
theorem controlInv_raiseError {s : State} (hs : ControlInv s) {code : ErrCode} (hcode : code ≠ .none) (exp rx : Byte)
    (cls : BitVec 2) (op : Byte) : ControlInv (raiseError code exp rx cls op s) where
  memWf := hs.memWf
  memInBuffers := hs.memInBuffers
  idleNoTransfer := by simp
  waitChunkData := by simp
  settleTail := by simp
  errCodeIff := by simp [hcode]
  errInfoZero := by simp
  txfLenBound := hs.txfLenBound

/-- `CLEAR` removes the error record and ends the transfer (R130, R141). -/
theorem controlInv_clearError {s : State} (hs : ControlInv s) : ControlInv (clearError s) := by
  have hm := controlInv_bufferMemory hs
  exact controlInv_of_noError (by simp) ⟨rfl, rfl⟩ (by simp [PhaseFits]) hm hs.txfLenBound

/-- A build goes to FLUSH, which fits every phase (R84). -/
theorem controlInv_build {s : State} (hm : BufferMemory s.mem) (hrecord : NoErrorRecord s) {p : List Byte}
    (hp : p.length ≤ 1027) (c : FrameClass) (op : Byte) : ControlInv (build p c op s) := by
  refine controlInv_of_noError (by simp) hrecord (by simp [PhaseFits]) (bufferMemory_build hm hp c op) ?_
  rw [build_txfLen_toNat p c op s hp]
  omega

theorem controlInv_buildTail {s : State} (hm : BufferMemory s.mem) (hrecord : NoErrorRecord s) :
    ControlInv (buildTail s) := by
  rw [buildTail_eq]
  exact controlInv_build (s := { s with xphase := .tail }) hm hrecord (by simp) _ _

/-! ### The engine's steps (R91, R92, R94, R97, R109) -/

/-- A step from a state without error to another keeps the invariant where the phase fits and the error record,
`TXF_LEN` and memory stay. -/
theorem controlInv_of_sameRecord {s t : State} (hs : ControlInv s) (hnoError : s.state ≠ .error)
    (hstate : t.state ≠ .error) (hphase : PhaseFits t)
    (hsame : (t.errCode, t.errInfo, t.txfLen, t.mem) = (s.errCode, s.errInfo, s.txfLen, s.mem)) : ControlInv t := by
  obtain ⟨hcode, hinfo⟩ := noErrorRecord_of_controlInv hs hnoError
  simp only [Prod.mk.injEq] at hsame
  obtain ⟨hcode', hinfo', hlen, hmem⟩ := hsame
  refine controlInv_of_noError hstate ⟨hcode'.trans hcode, hinfo'.trans hinfo⟩ hphase ?_ ?_
  · rw [hmem]; exact controlInv_bufferMemory hs
  · rw [hlen]; exact hs.txfLenBound

/-- Each continuation of a successful handshake goes to a state that fits the phase it leaves (R97, R104, R106,
R108). -/
theorem controlInv_success {s : State} (hs : ControlInv s) (hnoError : s.state ≠ .error) : ControlInv (success s) := by
  have hm := controlInv_bufferMemory hs
  have hrecord := noErrorRecord_of_controlInv hs hnoError
  rcases success_cases s with ⟨hphase, h⟩ | ⟨_, _, h⟩ | ⟨_, _, h⟩ | ⟨hphase, _, h⟩ | ⟨_, _, h⟩ | ⟨hphase, h⟩ <;> rw [h]
  · exact controlInv_of_sameRecord hs hnoError (by simp) (by simp [PhaseFits, hphase]) rfl
  · exact controlInv_of_sameRecord hs hnoError (by simp) (by simp [PhaseFits]) rfl
  · exact controlInv_buildTail hm hrecord
  · exact controlInv_of_sameRecord hs hnoError (by simp) (by simp [PhaseFits, hphase]) rfl
  · exact controlInv_buildTail hm hrecord
  · exact controlInv_of_sameRecord hs hnoError (by simp) (by simp [PhaseFits, hphase]) rfl

/-- The invariant does not look at the record of link requests. -/
theorem controlInv_logLink {s : State} (hs : ControlInv s) (e : LinkEvent) : ControlInv (logLink e s) := { hs with }

theorem controlInv_transportError {s : State} (hs : ControlInv s) : ControlInv (transportError s) :=
  controlInv_raiseError hs (by simp) _ _ _ _

/-- TX fits every phase. -/
theorem controlInv_flushStep (ok : Bool) {s : State} (hs : ControlInv s) (hstate : s.state = .flush) :
    ControlInv (flushStep ok s) := by
  cases ok with
  | true => exact controlInv_of_sameRecord hs (by simp [hstate]) (by simp) (by simp [PhaseFits]) rfl
  | false => exact controlInv_transportError (controlInv_logLink hs _)

/-- WAIT_ACK fits every phase. -/
theorem controlInv_txStep (ok : Bool) {s : State} (hs : ControlInv s) (hstate : s.state = .tx) :
    ControlInv (txStep ok s) := by
  cases ok with
  | true =>
    exact controlInv_of_sameRecord hs (by simp [hstate]) (by simp [txStep]) (by simp [PhaseFits, txStep]) rfl
  | false => exact controlInv_transportError (controlInv_logLink hs _)

theorem controlInv_waitAckStep (r : ReadOutcome) {s : State} (hs : ControlInv s) (hstate : s.state = .waitAck) :
    ControlInv (waitAckStep r s) := by
  rcases waitAckStep_cases r s with ⟨v, l, c, x, y, k, h, hcode⟩ | ⟨_, v, l, n, m, h⟩ <;> rw [h]
  · refine controlInv_raiseError ?_ hcode _ _ _ _
    exact { hs with }
  · refine controlInv_success ?_ (by simp [hstate])
    exact { hs with }

theorem controlInv_settleStep {s : State} (hs : ControlInv s) (hstate : s.state = .settle) :
    ControlInv (settleStep s) :=
  controlInv_of_sameRecord hs (by simp [hstate]) (by simp) (by simp [PhaseFits, settleStep]) rfl

/-! ### Every step (R40) -/

/-- `Reset()` gives the reset values whatever the agents around the block hold (R152). -/
theorem controlInv_resetBlock (s : State) : ControlInv (resetBlock s) := { controlInv_resetWith s.params with }

theorem controlInv_hostStore {s : State} (hs : ControlInv s) (off : Offset) (v : Word) :
    ControlInv (hostStore off v s) := by
  refine controlInv_of_sameControl hs ?_ (bufferMemory_hostStore (controlInv_bufferMemory hs) off v)
  obtain ⟨_, _, _, _, _, _, _, _, _, h, _⟩ := hostStore_frame off v s
  rw [h]
  rfl

/-- Frames are built in IDLE and WAIT_CHUNK only, where no error is recorded; ERROR is entered with a code and left
with an empty record. -/
theorem move_keeps_controlInv {s t : State} (h : Move s t) (hs : ControlInv s) : ControlInv t := by
  have hm := controlInv_bufferMemory hs
  cases h with
  | send p c op hstate hp => exact controlInv_build hm (noErrorRecord_of_controlInv hs (by simp [hstate])) hp c op
  | start hstate =>
    have hrecord := noErrorRecord_of_controlInv hs (by simp [hstate])
    exact controlInv_build (s := startTransfer s) hm hrecord (by simp) _ _
  | chunk hstate hlen =>
    exact controlInv_build hm (noErrorRecord_of_controlInv hs (by simp [hstate]))
      (length_dataPayload_le _ (hlen.trans_le (chunkNeed_le s))) _ _
  | acceptError code op _ hcode => exact controlInv_raiseError hs hcode _ _ _ _
  | clear => exact controlInv_clearError hs
  | reset => exact controlInv_resetBlock s
  | store off v => exact controlInv_hostStore hs off v
  | flush ok hstate => exact controlInv_flushStep ok hs hstate
  | tx ok hstate => exact controlInv_txStep ok hs hstate
  | waitAck r hstate => exact controlInv_waitAckStep r hs hstate
  | settle hstate => exact controlInv_settleStep hs hstate
  | same | overrun | crc | decode | read => exact controlInv_of_sameControl hs rfl hm

/-- Settles O35: every move of the block keeps the invariant, which does not look at the events to come or at the count
of draws. -/
theorem stepKeepsTheControlInvariant : Obligations.StepKeepsTheControlInvariant := by
  intro s t hs h
  exact step_keeps (P := ControlInv) (fun _ es hs => controlInv_withInputs hs es) (fun _ hs => { hs with })
    move_keeps_controlInv hs h

end Sys2Proof.ControlInvProofs
end

section
/-! PROOFS. The table of 40_crc.md section 1: the 256 entries listed there are what the generating procedure gives. -/

namespace Sys2Proof.CrcTableProofs

open Sys2Proof Sys2Proof.Machine

/-- What the generating procedure gives for `n` indices in a row (R75). -/
def generated (start n : Nat) : List Half := (List.range' start n).map fun i => crcTable (BitVec.ofNat 8 i)

theorem generated_append (start m n : Nat) :
    generated start m ++ generated (start + m) n = generated start (m + n) := by
  rw [generated, generated, ← List.map_append, List.range'_append_1, generated]

@[simp] theorem length_generated (start n : Nat) : (generated start n).length = n := by simp [generated]

theorem getElem?_generated {n : Nat} {i : Byte} (h : i.toNat < n) : (generated 0 n)[i.toNat]? = some (crcTable i) := by
  simp [generated, h]

/-- The listing has four parts of 64 entries, each checked by running the procedure. -/
theorem crcListing_eq_parts :
    crcListing = generated 0 64 ++ generated 64 64 ++ generated 128 64 ++ generated 192 64 := by
  unfold crcListing
  refine congrArg₂ (· ++ ·) (congrArg₂ (· ++ ·) (congrArg₂ (· ++ ·) ?_ ?_) ?_) ?_
  all_goals decide

theorem crcListing_eq_generated : crcListing = generated 0 256 := by
  rw [crcListing_eq_parts, generated_append 0 64 64, generated_append 0 128 64, generated_append 0 192 64]

/-- Settles O10: the listing is the table that the procedure generates, entry by entry. -/
theorem crcTableMatchesListing : Obligations.CrcTableMatchesListing := by
  unfold Obligations.CrcTableMatchesListing
  rw [crcListing_eq_generated]
  exact ⟨length_generated 0 256, fun i => getElem?_generated i.isLt⟩

end Sys2Proof.CrcTableProofs
end
